-- ==== Sys2Proof/Word.lean ====
section
/-! DEFINITION. The words of the W2416: bytes of the control link, 24-bit port samples and coefficient words. -/

namespace Sys2Proof

/-- One byte of the control link. -/
abbrev Byte := BitVec 8

/-- One 24-bit position of an audio port, or one coefficient word (00 Conventions, R2, R95). -/
abbrev Word24 := BitVec 24

/-- The five words of a coefficient set (R95). Also used as a pattern of bits to flip in one (R147). -/
structure Words where
  b0 : Word24
  b1 : Word24
  b2 : Word24
  a1 : Word24
  a2 : Word24
  deriving DecidableEq, Repr

/-- The eight positions that each of the three input ports carries in one sample period (R2). -/
structure Ports where
  progA : Vector Word24 8
  progB : Vector Word24 8
  ann : Vector Word24 8
  deriving DecidableEq, Repr

/-- The two announcement slots (R113). -/
inductive Slot where
  | slot1
  | slot2
  deriving DecidableEq, Repr

/-- The direction of a transition of WHEEL_PULSE (R80). -/
inductive Edge where
  | rising
  | falling
  deriving DecidableEq, Repr

/-- What can hold the part in reset (R175). -/
inductive Hold where
  | supplyCut
  | restartRequest
  | resetPin
  deriving DecidableEq, Repr

end Sys2Proof
end

