-- ==== Sys2Proof/Syntax.lean ====
section
/-! DEFINITION. The commands of the block: one constructor per row of spec/opcode_table.json, in its order. -/

namespace Sys2Proof

/-- The commands. A request carries the TAG and the PAYLOAD of a good frame (R177, R179); the row fixes its KIND. -/
inductive Instr where
  /-- SET, kind 0x01 (R24). -/
  | set (tag : Byte) (payload : List Byte)
  /-- COMMIT, kind 0x02 (R29). -/
  | commit (tag : Byte) (payload : List Byte)
  /-- QUERY, kind 0x03 (R183). -/
  | query (tag : Byte) (payload : List Byte)
  /-- SPEED, kind 0x04 (R74). -/
  | speed (tag : Byte) (payload : List Byte)
  /-- ANN_START, kind 0x05 (R117). -/
  | annStart (tag : Byte) (payload : List Byte)
  /-- ANN_END, kind 0x06 (R124). -/
  | annEnd (tag : Byte) (payload : List Byte)
  /-- TABLE_WRITE, kind 0x07 (R187). -/
  | tableWrite (tag : Byte) (payload : List Byte)
  /-- TABLE_READ, kind 0x08 (R189). -/
  | tableRead (tag : Byte) (payload : List Byte)
  /-- SAVE, kind 0x09 (R164). -/
  | save (tag : Byte) (payload : List Byte)
  /-- CLOSE_FACTORY, kind 0x0A (R164). -/
  | closeFactory (tag : Byte) (payload : List Byte)
  /-- PATCH_PUT, kind 0x0B (R170). -/
  | patchPut (tag : Byte) (payload : List Byte)
  /-- PATCH_DROP, kind 0x0C (R171). -/
  | patchDrop (tag : Byte) (payload : List Byte)
  /-- COUNTERS, kind 0x0D (R184). -/
  | counters (tag : Byte) (payload : List Byte)
  /-- CLEAR_HISTORY, kind 0x0E (R185). -/
  | clearHistory (tag : Byte) (payload : List Byte)
  /-- RESTART, kind 0x0F (R185). -/
  | restart (tag : Byte) (payload : List Byte)
  /-- BAD_KIND: a good frame of a kind that is no request kind (R180). -/
  | badKind (kind : Byte) (tag : Byte) (payload : List Byte)
  /-- CRC_ERROR: the bytes LENGTH, KIND, TAG, PAYLOAD of a frame and the CRC that came with them (R177, R178). -/
  | crcError (body : List Byte) (crc : BitVec 16)
  /-- FRAME_LENGTH_INVALID: the byte taken as LENGTH (R177). -/
  | frameLengthInvalid (length : Byte)
  /-- LINK_GAP: the byte that ends the gap inside a frame (R177). -/
  | linkGap (next : Byte)
  /-- FRAME_SENT: the transmitter has sent the last byte of its frame (R181). -/
  | frameSent
  /-- COMMIT_TAKEN (R30). -/
  | commitTaken
  /-- PLANNER_BOUNDARY (R46). -/
  | plannerBoundary
  /-- RAMP_BOUNDARY (R53). -/
  | rampBoundary
  /-- RAMP_STEP (R52). -/
  | rampStep
  /-- DRAIN_COMPLETION of a slot (R123). -/
  | drainCompletion (slot : Slot)
  /-- OUTPUT_STAGE_STEP (R63). -/
  | outputStageStep
  /-- APPLY_DELAY (R67). -/
  | applyDelay
  /-- EQ_BOUNDARY (R100). -/
  | eqBoundary
  /-- SCANNER_CHECK (R150). -/
  | scannerCheck
  /-- UPSET of a set: the bits of its words and of its check bits that change (R147). -/
  | upset (index : Fin 344) (flips : Words) (checkFlips : Nat)
  /-- READ_SET_BEGIN (R154). -/
  | readSetBegin
  /-- READ_SET_COMPLETE: whether the re-check of the written set passes (R155). -/
  | readSetComplete (recheckPasses : Bool)
  /-- ARBITER_BOUNDARY (R125). -/
  | arbiterBoundary
  /-- EXPIRY (R126). -/
  | expiry
  /-- SPEED_TRACKER_BOUNDARY (R77). -/
  | speedTrackerBoundary
  /-- STALE_TIMEOUT (R77). -/
  | staleTimeout
  /-- WINDOW_END (R81). -/
  | windowEnd
  /-- PULSE_COUNTED: a transition of WHEEL_PULSE in a direction (R80). -/
  | pulseCounted (edge : Edge)
  /-- SUPPLY_READING: the mean of the sensed supply over the frame, in millivolts (R133). -/
  | supplyReading (millivolts : Nat)
  /-- RUN_COMPLETE: the reading that completes a run, as its mean in millivolts (R136). -/
  | runComplete (millivolts : Nat)
  /-- SETTLE_COMPLETE: the reading that completes the settle time, as its mean in millivolts (R139). -/
  | settleComplete (millivolts : Nat)
  /-- SUPPLY_CUT: the supply falls below 6.0 V (R142). -/
  | supplyCut
  /-- RESET_PIN: RESET_N is asserted (R175). -/
  | resetPin
  /-- RESET_RELEASE: the end of a reset, with the hold whose end released the part (R172, R175). -/
  | resetRelease (endedBy : Hold)
  /-- LOAD_COMPLETE (R173). -/
  | loadComplete
  /-- HOST_OPERATION_BEGIN (R165). -/
  | hostOperationBegin
  /-- SAVE_COMPLETE: whether the written region verifies (R166). -/
  | saveComplete (verified : Bool)
  /-- CLOSE_COMPLETE: whether the written flag verifies (R167). -/
  | closeComplete (verified : Bool)
  /-- SAMPLE_PERIOD: what the input ports carry (R2, R19). -/
  | samplePeriod (ports : Ports)
  /-- POWER_LOSS: the supply falls below 3.0 V (R175). -/
  | powerLoss
  /-- STORED_COPY_DAMAGED: the set and the bits of its stored words that change (R147). -/
  | storedCopyDamaged (index : Fin 344) (flips : Words)
  deriving DecidableEq, Repr

end Sys2Proof
end

