-- ==== Sys2Proof/Decode.lean ====
section
/-! DEFINITION. The command that a word spells by the bits of spec/opcode_table.json. -/

namespace Sys2Proof

/-- No row of the table gives a word any bits ("fields" is empty in all 51 rows), so no word spells a command.
Requests arrive as frames of bytes, whose reading the commands' meanings do (Machine/Operands.lean). -/
def decodeTableWord (_nbits _w : Nat) : Option Instr := none

end Sys2Proof
end

