-- ==== Sys2Proof/Config.lean ====
section
/-! DEFINITION. What the spec leaves open and the machine nevertheless decides: opaque constants with no body. -/

namespace Sys2Proof

/-- One event can make both a reply and a notice while the transmitter is idle. R181: the one taken first is sent
first, and the spec does not say which that is. The argument numbers the choice. Log entry 7. -/
opaque Config.noticeFirst : Nat → Bool

/-- Whether the check bits of a set agree with its words when the words and the check bits together differ in three
or more bits from what was put in place: the words as they stand, the words whose check bits were computed, the check
bits flipped since. R147 fixes the answer for one and two bits only. Log entry 8. -/
opaque Config.checkAgrees : Words → Words → Nat → Bool

/-- Whether the check value of the FACTORY region still agrees with contents in which a stored copy has been damaged
(R162 does not say how much the check value finds). The argument numbers the choice. Log entry 9. -/
opaque Config.damagedFactoryAgrees : Nat → Bool

end Sys2Proof
end

