-- ==== Sys2Proof/Machine/Bytes.lean ====
section
/-! DEFINITION. Byte order and signs on the link, the CRC, the two rounding rules, clamping and saturation. -/

namespace Sys2Proof.Machine

/-- Clamped to a range (00 Rounding). -/
def clamp (lo hi v : Int) : Int := max lo (min hi v)

/-- Datapath division by 2^k, half up: floor(v / 2^k + 1/2) (00 Rounding, R13, R14, R18, R98). -/
def roundHalfUp (k : Nat) (v : Int) : Int := (v + 2 ^ (k - 1)) / 2 ^ k

/-- A counter that stops at 65 535 (R20, R161, R184). -/
def bump (n : Nat) : Nat := min 65535 (n + 1)

/-- A byte as an unsigned number. -/
def u8 (b : Byte) : Nat := b.toNat

/-- A byte as a two's complement number (R177). -/
def s8 (b : Byte) : Int := b.toInt

/-- Two bytes, high byte first, unsigned (R177). -/
def u16 (hi lo : Byte) : Nat := hi.toNat * 256 + lo.toNat

/-- Two bytes, high byte first, two's complement (R177). -/
def s16 (hi lo : Byte) : Int := (hi ++ lo).toInt

/-- One byte carrying a number, signed or not (R177). -/
def byteOf (v : Int) : Byte := BitVec.ofInt 8 v

/-- Two bytes carrying a number, high byte first, signed or not (R177). -/
def bytes2 (v : Int) : List Byte := [BitVec.ofInt 8 (v / 256), BitVec.ofInt 8 v]

/-- Four bytes carrying a count, high byte first (R183). -/
def bytes4 (n : Nat) : List Byte :=
  [BitVec.ofNat 8 (n / 16777216), BitVec.ofNat 8 (n / 65536), BitVec.ofNat 8 (n / 256), BitVec.ofNat 8 n]

/-- A flag as a byte, 0 clear and 1 set (R190). -/
def flagByte (b : Bool) : Byte := if b then 1 else 0

/-- The lowest bit of a byte: the flag that the hold, valid and clear bytes carry (R180). -/
def lowBit (b : Byte) : Bool := b.getLsbD 0

/-- A byte made of marks, the first mark in bit 0. -/
def marksByte (marks : List Bool) : Byte :=
  BitVec.ofNat 8 (marks.foldr (fun m n => 2 * n + (if m then 1 else 0)) 0)

/-- A list cut into pieces of n (the entries of a table on the link); the fuel is its length. -/
def chunksGo (n : Nat) : Nat → List Byte → List (List Byte)
  | 0, _ => []
  | _ + 1, [] => []
  | fuel + 1, l => l.take n :: chunksGo n fuel (l.drop n)

/-- A list of bytes cut into entries of n bytes. -/
def chunks (n : Nat) (l : List Byte) : List (List Byte) := chunksGo n l.length l

/-- One bit of the CRC register: generator 0x1021, most significant bit first (R178). -/
def crcShift (c : BitVec 16) : BitVec 16 :=
  if c.getLsbD 15 then (c <<< 1) ^^^ 0x1021 else c <<< 1

/-- One byte into the CRC register (R178). -/
def crcByte (c : BitVec 16) (b : Byte) : BitVec 16 :=
  crcShift (crcShift (crcShift (crcShift (crcShift (crcShift (crcShift (crcShift
    (c ^^^ (b.setWidth 16 <<< 8)))))))))

/-- The CRC of LENGTH, KIND, TAG and PAYLOAD: initial value 0xFFFF, neither reflected nor inverted (R178). -/
def crc16 (bytes : List Byte) : BitVec 16 := bytes.foldl crcByte 0xFFFF

/-- The number of bits set in a pattern. -/
def popcount (n : Nat) : Nat := ((List.range (n.log2 + 1)).filter n.testBit).length

/-- Five words with the bits of a pattern flipped (R147). -/
def flipWords (w flips : Words) : Words :=
  ⟨w.b0 ^^^ flips.b0, w.b1 ^^^ flips.b1, w.b2 ^^^ flips.b2, w.a1 ^^^ flips.a1, w.a2 ^^^ flips.a2⟩

/-- In how many of the 120 bits two sets of words differ (R147). -/
def wordsDistance (v w : Words) : Nat :=
  popcount (v.b0 ^^^ w.b0).toNat + popcount (v.b1 ^^^ w.b1).toNat + popcount (v.b2 ^^^ w.b2).toNat +
    popcount (v.a1 ^^^ w.a1).toNat + popcount (v.a2 ^^^ w.a2).toNat

/-- The five words of a coefficient set as 15 bytes, b0, b1, b2, a1, a2, each high byte first (R190). -/
def wordsBytes (w : Words) : List Byte :=
  [w.b0, w.b1, w.b2, w.a1, w.a2].flatMap fun c =>
    [c.extractLsb' 16 8, c.extractLsb' 8 8, c.extractLsb' 0 8]

/-- Three bytes, high byte first, as a word (R190). -/
def word24 (hi mid lo : Byte) : Word24 := hi ++ mid ++ lo

/-- The coefficient set that 15 bytes carry (R190). -/
def wordsOfBytes : List Byte → Words
  | [a, b, c, d, e, f, g, h, i, j, k, l, m, n, o] =>
    ⟨word24 a b c, word24 d e f, word24 g h i, word24 j k l, word24 m n o⟩
  | _ => ⟨0, 0, 0, 0, 0⟩

end Sys2Proof.Machine
end

