-- ==== Sys2Proof/Machine/Types.lean ====
section
/-! DEFINITION. The records that State is made of, as the chapters of the spec name them. -/

namespace Sys2Proof.Machine

/-! ## Channel records and tables (chapters 1, 2, 4, 6) -/

/-- The zone of a channel (R7); code = position. -/
inductive Zone where
  | front | rear | cabin
  deriving DecidableEq, Repr

/-- The leg a channel plays (R7); code = position. -/
inductive Leg where
  | left | right | sum
  deriving DecidableEq, Repr

/-- The place of a channel across the car (R7); code = position. -/
inductive Side where
  | left | centre | right
  deriving DecidableEq, Repr

/-- The place of a channel along the car (R7); code = position. -/
inductive Row where
  | front | mid | back
  deriving DecidableEq, Repr

/-- The polarity of a channel (R7, R18). -/
inductive Polarity where
  | normal | inverted
  deriving DecidableEq, Repr

/-- A set of physical seats (R7). -/
structure Seats where
  frontLeft : Bool
  frontRight : Bool
  rearLeft : Bool
  rearRight : Bool
  deriving DecidableEq, Repr

/-- A set of seat roles (R112, R115). -/
structure Roles where
  driver : Bool
  codriver : Bool
  rearLeft : Bool
  rearRight : Bool
  deriving DecidableEq, Repr

/-- One entry of CH_ROUTE (R7). -/
structure Route where
  enabled : Bool
  zone : Zone
  leg : Leg
  side : Side
  row : Row
  exempt : Bool
  seats : Seats
  toneGroup : Nat
  polarity : Polarity
  deriving DecidableEq, Repr

/-- One entry of SPEED_CURVE (R87). -/
structure CurvePoint where
  speed : Nat
  boost : Nat
  inUse : Bool
  deriving DecidableEq, Repr

/-- One entry of CLASSES (R110). -/
structure ClassEntry where
  level : Nat
  duck : Nat
  maxDuration : Nat
  resume : Bool
  deriving DecidableEq, Repr

/-- The working tables but for the coefficient tables, whose words stand with the integrity checker's records. -/
structure Tables where
  volume : List Int
  annVolume : List Int
  balance : List Int
  fade : List Int
  speedCurve : List CurvePoint
  classes : List ClassEntry
  route : List Route
  trim : List Int
  ceiling : List Int
  annTrim : List Int
  sdvWeight : List Int
  delay : List Int
  globals : List Int
  deriving DecidableEq, Repr

/-- The entries of GLOBALS by name, in index order (R188). -/
inductive Global where
  | sdvKnee | rampDivider | progSlew | annSlew | fastSlew | speedSource | staleTime | pulseEdge | pulseConst
  | speedHyst | sdvBassDiv | lowEnter | lowLeave | highLeave | highEnter | settle | startVolCap
  deriving DecidableEq, Repr

/-- The settings of the live scene by name, in id order (R22). -/
inductive Setting where
  | volFront | volRear | balance | fade | bass | treble | bassRear | trebleRear | sdvLevel | zoneMode | driverSide
  | muteFront | muteRear | annVolAlert | annVolPark | annVolPhone | annVolNav
  deriving DecidableEq, Repr

/-- A scene: one value per setting, in id order (R22). -/
abbrev Scene := List Int

/-! ## Gain plan, ramps, output (chapters 2, 3, 1) -/

/-- One number in qdB for each of the three paths of a channel. -/
structure PathGains where
  prog : Int
  slot1 : Int
  slot2 : Int
  deriving DecidableEq, Repr

/-- The effective tone steps of a channel (R45). -/
structure ToneSteps where
  bass : Int
  treble : Int
  deriving DecidableEq, Repr

/-- The gain planner. -/
structure Planner where
  /-- The live scene (R22). -/
  live : Scene
  /-- The pending scene, by setting; `none` is a setting with no entry (R27). -/
  waiting : List (Option Int)
  /-- The commit mark (R28). -/
  commitMark : Bool
  /-- The targets of the last boundary (R46). -/
  targets : List PathGains
  /-- The effective tone steps of the last boundary (R46). -/
  tone : List ToneSteps
  /-- CH_CEILING as the planner read it for those targets; the ramp unit's clamp uses it (R56). -/
  readCeiling : List Int
  deriving DecidableEq, Repr

/-- A programme stream (R12). -/
inductive ProgSource where
  | progA | progB
  deriving DecidableEq, Repr

/-- What the mixer took for a channel at the last boundary (R5, R12). -/
structure MixChan where
  source : ProgSource
  leg : Leg
  deriving DecidableEq, Repr

/-- One value per slot. -/
structure PerSlot (α : Type) where
  slot1 : α
  slot2 : α
  deriving DecidableEq, Repr

/-- The ramp unit. -/
structure Ramp where
  /-- The applied gains (R50). -/
  applied : List PathGains
  /-- The divider counter (R52). -/
  divider : Nat
  /-- A drain completion handed and not yet taken (R58). -/
  handed : PerSlot Bool
  deriving DecidableEq, Repr

/-- The state of an output fader (R59); code = position. -/
inductive FaderState where
  | opened | closing | closed | opening
  deriving DecidableEq, Repr

/-- The close reasons (R59), in the bit order of R183. -/
inductive Reason where
  | startup | supply | fault | delay | disabled
  deriving DecidableEq, Repr

/-- A close-reason set (R59). -/
structure Reasons where
  startup : Bool
  supply : Bool
  fault : Bool
  delay : Bool
  disabled : Bool
  deriving DecidableEq, Repr

/-- The fader record of a channel (R59). -/
structure Fader where
  level : Int
  state : FaderState
  reasons : Reasons
  deriving DecidableEq, Repr

/-- The output stage's record of a channel. -/
structure OutChan where
  fader : Fader
  /-- The fader record as the events of the last frame boundary left it, which R59 shows to a QUERY (log entry 14). -/
  shown : Fader
  /-- Present only while a delay change is in progress (R65). -/
  pendingDelay : Option Nat
  /-- The polarity taken at the last boundary (R5). -/
  polarity : Polarity
  clipMark : Bool
  clipCount : Nat
  inClipSet : Bool
  deriving DecidableEq, Repr

/-- One delay line (R16): the applied delay, and the samples that entered, the latest first. A sample not listed is 0,
and the last one listed is not 0, so that equal lines are equal data. -/
structure DelayLine where
  applied : Nat
  samples : List Int
  deriving DecidableEq, Repr

/-- One equaliser section (R94), with the words it read at the last boundary (R100). -/
structure EqSection where
  x1 : Int
  x2 : Int
  y1 : Int
  y2 : Int
  selected : Nat
  bypass : Bool
  words : Words
  deriving DecidableEq, Repr

/-- The three output ports with their eight positions each (R3). -/
structure OutPorts where
  out0 : Vector Word24 8
  out1 : Vector Word24 8
  out2 : Vector Word24 8
  deriving DecidableEq, Repr

/-- The audio ports: the frame clock (R4), the output ports (R3) and, by channel, the words of the two sample periods in
flight (R6). -/
structure Audio where
  clock : Nat
  outputs : OutPorts
  stage1 : List Word24
  stage2 : List Word24
  deriving DecidableEq, Repr

/-! ## Speed, announcements, supply (chapters 4, 6, 7) -/

/-- The speed state (R73); code = position. -/
inductive SpeedState where
  | fresh | stale | pulse
  deriving DecidableEq, Repr

/-- The speed tracker (R71). -/
structure Tracker where
  state : SpeedState
  sf : Nat
  lastSample : Nat
  staleCount : Nat
  windowFrames : Nat
  windowPulses : Nat
  boost : Nat
  scaledBoost : Nat
  bassOffset : Nat
  deriving DecidableEq, Repr

/-- The announcement classes in their fixed order (R109); code = position. -/
inductive AnnClass where
  | alert | park | phone | nav
  deriving DecidableEq, Repr

/-- One value per announcement class. -/
structure PerClass (α : Type) where
  alert : α
  park : α
  phone : α
  nav : α
  deriving DecidableEq, Repr

/-- The state of a class, with its slot while ACTIVE (R112). -/
inductive ClassState where
  | idle | pending | active (slot : Slot)
  deriving DecidableEq, Repr

/-- The last-end reason (R112); code = position. -/
inductive EndReason where
  | none | finished | expired | preempted | withdrawn
  deriving DecidableEq, Repr

/-- A class record (R112). -/
structure ClassRec where
  state : ClassState
  roles : Roles
  lastEnd : EndReason
  timer : Nat
  deriving DecidableEq, Repr

/-- A slot record, with its class while ACTIVE (R113). -/
inductive SlotRec where
  | free | active (holds : AnnClass) | draining
  deriving DecidableEq, Repr

/-- The announcement arbiter. -/
structure Arbiter where
  classes : PerClass ClassRec
  slots : PerSlot SlotRec
  deriving DecidableEq, Repr

/-- The state of the supply monitor (R135); code = position. -/
inductive MonitorState where
  | normal | low | high | settling
  deriving DecidableEq, Repr

/-- The side of a run (R135). -/
inductive RunSide where
  | none | low | high
  deriving DecidableEq, Repr

/-- The supply monitor (R135). -/
structure Supply where
  state : MonitorState
  side : RunSide
  count : Nat
  settle : Nat
  reading : Nat
  deriving DecidableEq, Repr

/-! ## Coefficient integrity (chapter 8) -/

/-- The state of a coefficient set (R148); code = position. -/
inductive SetState where
  | good | suspect | restoring | failed
  deriving DecidableEq, Repr

/-- A coefficient set in the working tables. Its check bits are held as the words they were computed from and the
check bits flipped since (R147, log entry 8). -/
structure CoeffSet where
  words : Words
  placed : Words
  checkFlips : Nat
  state : SetState
  /-- The unsaved mark (R157). -/
  unsaved : Bool
  /-- Written since the last accepted SAVE FACTORY: what R157 needs to know at that save's completion. -/
  writtenSince : Bool
  deriving DecidableEq, Repr

/-- The last-transition record (R160). -/
structure Transition where
  index : Nat
  entered : SetState
  reverted : Bool
  deriving DecidableEq, Repr

/-- The integrity checker. -/
structure Integrity where
  sets : List CoeffSet
  /-- The restore queue (R152). -/
  queue : List Nat
  scanPos : Nat
  last : Option Transition
  restored : Nat
  secondFailures : Nat
  deriving DecidableEq, Repr

/-- The read record (R154), with the stored copy if the read returns a usable one. -/
structure ReadRec where
  index : Nat
  discard : Bool
  copy : Option Words
  deriving DecidableEq, Repr

/-! ## Tuning store and start-up (chapter 9) -/

/-- The stored copy of a set: its words, and whether its own check bits agree with them (R147). -/
structure StoredSet where
  words : Words
  checkOk : Bool
  deriving DecidableEq, Repr

/-- The contents of the FACTORY region (R162). -/
structure FactoryImage where
  tables : Tables
  sets : List StoredSet
  deriving DecidableEq, Repr

/-- The eight patchable tables (R169). -/
inductive PatchTable where
  | volume | annVolume | balance | fade | trim | ceiling | annTrim | sdvWeight
  deriving DecidableEq, Repr

/-- A patch record (R169). -/
structure PatchRec where
  table : PatchTable
  index : Nat
  value : Int
  deriving DecidableEq, Repr

/-- The state of a region (R162); code = position. -/
inductive RegionState where
  | valid | blank | corrupt
  deriving DecidableEq, Repr

/-- A host operation with the contents captured at its acceptance (R163, R164). -/
inductive HostOp where
  | saveFactory (image : FactoryImage)
  | saveDealer (patches : List PatchRec)
  | saveStart (scene : Scene)
  | close
  deriving DecidableEq, Repr

/-- What the store controller is doing (R163). -/
inductive StoreOp where
  | load
  | readSet
  | host (op : HostOp)
  deriving DecidableEq, Repr

/-- The tuning store and the store controller. -/
structure Store where
  factory : FactoryImage
  factoryState : RegionState
  dealer : List PatchRec
  dealerState : RegionState
  start : Scene
  startState : RegionState
  /-- The factory-closed flag (R162, R167). -/
  closed : Bool
  running : Option StoreOp
  /-- A host operation accepted and not yet begun (R165). -/
  waiting : Option HostOp
  /-- The code of the last host operation completed, and whether its result was OK (R166). -/
  lastDone : Option (Nat × Bool)
  deriving DecidableEq, Repr

/-- The start-up state (R172); code = position. -/
inductive StartState where
  | loading | running | tuneless
  deriving DecidableEq, Repr

/-- The start-up controller. -/
structure Startup where
  state : StartState
  /-- Patches skipped at the last load (R176). -/
  skipped : Nat
  deriving DecidableEq, Repr

/-- The cause of a reset (R175); code = position. -/
inductive Cause where
  | powerOn | supplyCut | restartRequest | resetPin
  deriving DecidableEq, Repr

/-- The reset record in retention memory (R175). -/
structure ResetRecord where
  cause : Cause
  cutFlag : Bool
  count : Nat
  deriving DecidableEq, Repr

/-- What holds the part in reset, and what happened during the reset in progress (R142, R175). -/
structure ResetHold where
  supply : Bool
  pin : Bool
  restart : Bool
  /-- The comparator held the part at some time during this reset. -/
  cutSeen : Bool
  /-- The supply fell below 3.0 V during this reset. -/
  powerLost : Bool
  deriving DecidableEq, Repr

/-! ## Control link (chapter 10) -/

/-- The receive assembler (R177). -/
inductive Assembler where
  /-- Outside a frame, hunting for SYNC. -/
  | hunting
  /-- SYNC has been taken; the next byte is LENGTH. -/
  | started
  /-- LENGTH, and what has been collected of the body bytes and the two CRC bytes, the first byte first. -/
  | collecting (length : Byte) (collected : List Byte)
  deriving DecidableEq, Repr

/-- A byte that arrives on LINK_RX, and whether more than 2 ms have passed since the byte before it (R177). -/
structure RxByte where
  value : Byte
  late : Bool
  deriving DecidableEq, Repr

/-- A frame the part sends: KIND, TAG and PAYLOAD; SYNC, LENGTH and CRC follow from them (`Frame.bytes`). -/
structure Frame where
  kind : Byte
  tag : Byte
  payload : List Byte
  deriving DecidableEq, Repr

/-- The notice kinds (R182), in the order of their codes 0x40 to 0x46. -/
inductive Notice where
  | ready | annState | speedState | supplyState | coeffState | storeDone | clip
  deriving DecidableEq, Repr

/-- The status codes (R180); code = position. -/
inductive Status where
  | ok | clamped | notReady | badLength | badKind | badId | badRange | tableInvalid | unstable | busy | isProtected
  | notActive | late | wrongSource | full | noTuning
  deriving DecidableEq, Repr

/-- The link controller. -/
structure Link where
  assembler : Assembler
  /-- The reply queue (R179). -/
  replies : List Frame
  /-- The notice queue (R182). -/
  notices : List Notice
  /-- The frame in transmission; `none` is the idle transmitter (R181). -/
  tx : Option Frame
  /-- The reset pending after a handled RESTART (R185). -/
  restartPending : Bool
  crcErrors : Nat
  gaps : Nat
  discards : Nat
  invalidReports : Nat
  deriving DecidableEq, Repr

end Sys2Proof.Machine
end

