-- ==== Sys2Proof/Machine/Defaults.lean ====
section
/-! DEFINITION. The built-in defaults and the values after reset that the chapters give, block by block. -/

namespace Sys2Proof.Machine

/-! ## Built-in tables -/

/-- The built-in entry of CH_ROUTE (R7). -/
def Route.builtin : Route where
  enabled := false
  zone := .front
  leg := .sum
  side := .centre
  row := .mid
  exempt := false
  seats := ⟨false, false, false, false⟩
  toneGroup := 0
  polarity := .normal

/-- The built-in VOLUME table (R32). -/
def builtinVolume : List Int := -480 :: (List.range 63).map fun i => -4 * (62 - (i : Int))

/-- The built-in ANN_VOLUME table (R32). -/
def builtinAnnVolume : List Int := -480 :: (List.range 31).map fun i => -8 * (30 - (i : Int))

/-- The built-in BALANCE and FADE tables (R33). -/
def builtinAttenuation : List Int := (List.range 21).map fun n => 24 * (n : Int)

/-- The built-in SPEED_CURVE (R87). -/
def builtinCurve : List CurvePoint :=
  ⟨0, 0, true⟩ :: ⟨255, 0, true⟩ :: List.replicate 6 ⟨0, 0, false⟩

/-- The built-in CLASSES (R110). -/
def builtinClasses : List ClassEntry :=
  [⟨3, 80, 0, false⟩, ⟨2, 40, 0, false⟩, ⟨2, 120, 0, true⟩, ⟨1, 24, 30, true⟩]

/-- The built-in GLOBALS, in index order (R35, R51, R72, R134, R173, R188). -/
def builtinGlobals : List Int := [-80, 0, 4, 8, 32, 0, 10, 0, 4000, 3, 0, 90, 96, 158, 165, 0, 40]

/-- The built-in working tables. -/
def Tables.builtin : Tables where
  volume := builtinVolume
  annVolume := builtinAnnVolume
  balance := builtinAttenuation
  fade := builtinAttenuation
  speedCurve := builtinCurve
  classes := builtinClasses
  route := List.replicate 24 Route.builtin
  trim := List.replicate 24 0
  ceiling := List.replicate 24 0
  annTrim := List.replicate 24 0
  sdvWeight := List.replicate 24 0
  delay := List.replicate 24 0
  globals := builtinGlobals

/-- The pass-through set: b0 = 2^22 and the other words 0 (R96). -/
def passThrough : Words := ⟨4194304, 0, 0, 0, 0⟩

/-- The built-in live scene, in id order (R22). -/
def builtinScene : Scene := [20, 20, 0, 0, 0, 0, 0, 0, 4, 0, 0, 0, 0, 20, 20, 20, 20]

/-! ## Values after reset -/

/-- All three paths of a channel at the mute value. -/
def PathGains.mute : PathGains := ⟨-480, -480, -480⟩

/-- The planner after reset (R22, R27, R48). -/
def Planner.reset : Planner where
  live := builtinScene
  waiting := List.replicate 17 none
  commitMark := false
  targets := List.replicate 24 PathGains.mute
  tone := List.replicate 24 ⟨0, 0⟩
  readCeiling := List.replicate 24 0

/-- The mixer before its first boundary. DESIGN CHOICE, log entry 16. -/
def MixChan.reset : MixChan := ⟨.progA, .sum⟩

/-- The ramp unit after reset (R50, R52, R58). -/
def Ramp.reset : Ramp := ⟨List.replicate 24 PathGains.mute, 0, ⟨false, false⟩⟩

/-- A fader after reset: CLOSED at −480 for STARTUP, SUPPLY and DISABLED (R59). -/
def Fader.reset : Fader := ⟨-480, .closed, ⟨true, true, false, false, true⟩⟩

/-- The output stage's record of a channel after reset (R21, R59, R65). Polarity: DESIGN CHOICE, log entry 16. -/
def OutChan.reset : OutChan := ⟨Fader.reset, Fader.reset, none, .normal, false, 0, false⟩

/-- A delay line after reset (R16). -/
def DelayLine.reset : DelayLine := ⟨0, []⟩

/-- The set that section s of channel c selects after reset (R94, R95). -/
def resetSelection (c s : Nat) : Nat := if s < 6 then 6 * c + s else if s = 6 then 156 else 256

/-- The section records after reset (R94). The words held: DESIGN CHOICE, log entry 16. -/
def eqReset : List (List EqSection) :=
  (List.range 24).map fun c => (List.range 8).map fun s =>
    ⟨0, 0, 0, 0, resetSelection c s, false, passThrough⟩

/-- The speed tracker after reset (R71). -/
def Tracker.reset : Tracker := ⟨.stale, 0, 0, 0, 0, 0, 0, 0, 0⟩

/-- No seat role. -/
def Roles.empty : Roles := ⟨false, false, false, false⟩

/-- A class record after reset (R112). -/
def ClassRec.reset : ClassRec := ⟨.idle, Roles.empty, .none, 0⟩

/-- The arbiter after reset (R112, R113). -/
def Arbiter.reset : Arbiter :=
  ⟨⟨ClassRec.reset, ClassRec.reset, ClassRec.reset, ClassRec.reset⟩, ⟨.free, .free⟩⟩

/-- The supply monitor after reset (R133, R135). -/
def Supply.reset : Supply := ⟨.settling, .none, 0, 0, 0⟩

/-- A coefficient set after reset (R96, R148, R157). -/
def CoeffSet.reset : CoeffSet := ⟨passThrough, passThrough, 0, .good, false, false⟩

/-- The integrity checker after reset (R148, R150, R152, R160, R161). -/
def Integrity.reset : Integrity := ⟨List.replicate 344 CoeffSet.reset, [], 0, none, 0, 0⟩

/-- The tuning store of a new part: every region BLANK, the flag clear (R162), and no operation. What a BLANK region
holds is never read. DESIGN CHOICE, log entry 6. -/
def Store.new : Store where
  factory := ⟨Tables.builtin, List.replicate 344 ⟨passThrough, true⟩⟩
  factoryState := .blank
  dealer := []
  dealerState := .blank
  start := builtinScene
  startState := .blank
  closed := false
  running := none
  waiting := none
  lastDone := none

/-- The start-up controller in the release event (R172). The skipped count: DESIGN CHOICE, log entry 19. -/
def Startup.reset : Startup := ⟨.loading, 0⟩

/-- The reset record at a power-on release (R175). -/
def ResetRecord.powerOn : ResetRecord := ⟨.powerOn, false, 0⟩

/-- Nothing holds the part. -/
def ResetHold.released : ResetHold := ⟨false, false, false, false, false⟩

/-- The link controller after reset (R177, R179, R181, R182, R184). -/
def Link.reset : Link := ⟨.hunting, [], [], none, false, 0, 0, 0, 0⟩

/-- Every output position carries zero (R1). -/
def OutPorts.silent : OutPorts := ⟨Vector.replicate 8 0, Vector.replicate 8 0, Vector.replicate 8 0⟩

/-- The audio ports after reset (R1, R4). The samples in flight: DESIGN CHOICE, log entry 15. -/
def Audio.reset : Audio := ⟨0, OutPorts.silent, List.replicate 24 0, List.replicate 24 0⟩

end Sys2Proof.Machine
end

