-- ==== Sys2Proof/Machine/State.lean ====
section
/-! DEFINITION. The state of the block, what can stop a step, and the state after reset. -/

namespace Sys2Proof.Machine

/-- Reasons to stop with a fault. There is none: the spec gives the block no fault that stops it (INVENTORY, Faults). -/
inductive Fault where
  deriving DecidableEq, Repr

/-- Reasons to refuse a command. -/
inductive Refusal where
  /-- The command has no meaning in the model yet. Raised by an arm of `exec` and by nothing else; safe. No arm raises
  it now: every command has its meaning. -/
  | notModelled (mnemonic : String)
  deriving DecidableEq, Repr

/-- The state of the block. -/
structure State where
  /-- The working tables (R7, R8, R32, R33, R87, R110, R188). -/
  tables : Tables
  /-- The gain planner (R22 to R49). -/
  planner : Planner
  /-- What the mixer took for each of the 24 channels (R5, R12). -/
  mixer : List MixChan
  /-- The ramp unit (R50 to R58). -/
  ramp : Ramp
  /-- The output stage, one record per channel (R19 to R21, R59 to R70). -/
  output : List OutChan
  /-- The delay memory, one line per channel (R16). -/
  lines : List DelayLine
  /-- The EQ engine: 24 channels of 8 sections (R94). -/
  eq : List (List EqSection)
  /-- The speed tracker (R71). -/
  tracker : Tracker
  /-- The announcement arbiter (R112, R113). -/
  arbiter : Arbiter
  /-- The supply monitor (R135). -/
  supply : Supply
  /-- The integrity checker (R147 to R161). -/
  integrity : Integrity
  /-- The restore unit's read in progress (R154). -/
  read : Option ReadRec
  /-- The tuning store and its controller (R162 to R168). -/
  store : Store
  /-- The working patch list (R169). -/
  patches : List PatchRec
  /-- The start-up controller (R172). -/
  startup : Startup
  /-- The reset record (R175). -/
  record : ResetRecord
  /-- What holds the part in reset (R142, R175, R185). -/
  hold : ResetHold
  /-- The link controller (R177 to R185). -/
  link : Link
  /-- The audio ports and the frame clock (R1 to R6). -/
  audio : Audio
  /-- The model's own field: how many free choices have been drawn (log entry 7). -/
  draws : Nat
  /-- The model's own field: the commands that are waiting, first in, first out. -/
  pending : List Instr
  /-- The model's own field: the bytes that wait on LINK_RX, first in, first out (R177, log entry 18). -/
  received : List RxByte
  deriving DecidableEq, Repr

/-- The state right after the release of a power-on reset of a new part: every block at the value after reset that its
chapter gives, the start-up state LOADING and LOAD running (R172, R175), the store as R162 gives it in a new part. -/
def State.reset : State where
  tables := Tables.builtin
  planner := Planner.reset
  mixer := List.replicate 24 MixChan.reset
  ramp := Ramp.reset
  output := List.replicate 24 OutChan.reset
  lines := List.replicate 24 DelayLine.reset
  eq := eqReset
  tracker := Tracker.reset
  arbiter := Arbiter.reset
  supply := Supply.reset
  integrity := Integrity.reset
  read := none
  store := { Store.new with running := some .load }
  patches := []
  startup := Startup.reset
  record := ResetRecord.powerOn
  hold := ResetHold.released
  link := Link.reset
  audio := Audio.reset
  draws := 0
  pending := []
  received := []

/-! ## One update per block -/

/-- `s` with the working tables replaced. -/
def State.withTables (s : State) (v : Tables) : State := { s with tables := v }

/-- `s` with the gain planner replaced. -/
def State.withPlanner (s : State) (v : Planner) : State := { s with planner := v }

/-- `s` with the mixer replaced. -/
def State.withMixer (s : State) (v : List MixChan) : State := { s with mixer := v }

/-- `s` with the ramp unit replaced. -/
def State.withRamp (s : State) (v : Ramp) : State := { s with ramp := v }

/-- `s` with the output stage replaced. -/
def State.withOutput (s : State) (v : List OutChan) : State := { s with output := v }

/-- `s` with the delay memory replaced. -/
def State.withLines (s : State) (v : List DelayLine) : State := { s with lines := v }

/-- `s` with the EQ engine replaced. -/
def State.withEq (s : State) (v : List (List EqSection)) : State := { s with eq := v }

/-- `s` with the speed tracker replaced. -/
def State.withTracker (s : State) (v : Tracker) : State := { s with tracker := v }

/-- `s` with the announcement arbiter replaced. -/
def State.withArbiter (s : State) (v : Arbiter) : State := { s with arbiter := v }

/-- `s` with the supply monitor replaced. -/
def State.withSupply (s : State) (v : Supply) : State := { s with supply := v }

/-- `s` with the integrity checker replaced. -/
def State.withIntegrity (s : State) (v : Integrity) : State := { s with integrity := v }

/-- `s` with the restore unit replaced. -/
def State.withRead (s : State) (v : Option ReadRec) : State := { s with read := v }

/-- `s` with the tuning store replaced. -/
def State.withStore (s : State) (v : Store) : State := { s with store := v }

/-- `s` with the working patch list replaced. -/
def State.withPatches (s : State) (v : List PatchRec) : State := { s with patches := v }

/-- `s` with the start-up controller replaced. -/
def State.withStartup (s : State) (v : Startup) : State := { s with startup := v }

/-- `s` with the reset record replaced. -/
def State.withRecord (s : State) (v : ResetRecord) : State := { s with record := v }

/-- `s` with the reset hold replaced. -/
def State.withHold (s : State) (v : ResetHold) : State := { s with hold := v }

/-- `s` with the link controller replaced. -/
def State.withLink (s : State) (v : Link) : State := { s with link := v }

/-- `s` with the audio ports replaced. -/
def State.withAudio (s : State) (v : Audio) : State := { s with audio := v }

/-- `s` with the counter of free choices replaced. -/
def State.withDraws (s : State) (v : Nat) : State := { s with draws := v }

/-- `s` with the command queue replaced. -/
def State.withPending (s : State) (v : List Instr) : State := { s with pending := v }

/-- `s` with the bytes that wait on LINK_RX replaced. -/
def State.withReceived (s : State) (v : List RxByte) : State := { s with received := v }

end Sys2Proof.Machine
end

