-- ==== Sys2Proof/Machine/Operands.lean ====
section
/-! DEFINITION. Names into tables and records, codes, ranges, and the layouts of entries on the link. -/

namespace Sys2Proof.Machine

/-! ## Settings and GLOBALS by name -/

/-- The place of a setting in a scene: its id less 1 (R22). -/
def Setting.index : Setting → Nat
  | .volFront => 0 | .volRear => 1 | .balance => 2 | .fade => 3 | .bass => 4 | .treble => 5 | .bassRear => 6
  | .trebleRear => 7 | .sdvLevel => 8 | .zoneMode => 9 | .driverSide => 10 | .muteFront => 11 | .muteRear => 12
  | .annVolAlert => 13 | .annVolPark => 14 | .annVolPhone => 15 | .annVolNav => 16

/-- The ranges of the settings, in id order (R22); an enumerated setting's range is that of its codes (R24). -/
def settingRanges : List (Int × Int) :=
  [(0, 63), (0, 63), (-20, 20), (-20, 20), (-12, 12), (-12, 12), (-12, 12), (-12, 12), (0, 7), (0, 1), (0, 1),
   (0, 1), (0, 1), (0, 31), (0, 31), (0, 31), (0, 31)]

/-- The value of a setting. -/
def Scene.val (sc : Scene) (x : Setting) : Int := sc.getD x.index 0

/-- The index of an entry of GLOBALS (R188). -/
def Global.index : Global → Nat
  | .sdvKnee => 0 | .rampDivider => 1 | .progSlew => 2 | .annSlew => 3 | .fastSlew => 4 | .speedSource => 5
  | .staleTime => 6 | .pulseEdge => 7 | .pulseConst => 8 | .speedHyst => 9 | .sdvBassDiv => 10 | .lowEnter => 11
  | .lowLeave => 12 | .highLeave => 13 | .highEnter => 14 | .settle => 15 | .startVolCap => 16

/-- The value of an entry of GLOBALS. -/
def Tables.global (t : Tables) (g : Global) : Int := t.globals.getD g.index 0

/-! ## One value per slot, per class -/

/-- The value of a slot. -/
def PerSlot.get {α : Type} (p : PerSlot α) : Slot → α
  | .slot1 => p.slot1
  | .slot2 => p.slot2

/-- The value of a slot replaced. -/
def PerSlot.put {α : Type} (p : PerSlot α) (k : Slot) (v : α) : PerSlot α :=
  match k with
  | .slot1 => { p with slot1 := v }
  | .slot2 => { p with slot2 := v }

/-- The classes in their fixed order (R109). -/
def AnnClass.all : List AnnClass := [.alert, .park, .phone, .nav]

/-- The code of a class (R109). -/
def AnnClass.code : AnnClass → Nat
  | .alert => 0 | .park => 1 | .phone => 2 | .nav => 3

/-- The class that a code names (R109). -/
def AnnClass.ofCode (n : Nat) : Option AnnClass := AnnClass.all[n]?

/-- The announcement volume setting of a class (R109). -/
def AnnClass.volume : AnnClass → Setting
  | .alert => .annVolAlert | .park => .annVolPark | .phone => .annVolPhone | .nav => .annVolNav

/-- The value of a class. -/
def PerClass.get {α : Type} (p : PerClass α) : AnnClass → α
  | .alert => p.alert | .park => p.park | .phone => p.phone | .nav => p.nav

/-- The value of a class replaced. -/
def PerClass.put {α : Type} (p : PerClass α) (k : AnnClass) (v : α) : PerClass α :=
  match k with
  | .alert => { p with alert := v }
  | .park => { p with park := v }
  | .phone => { p with phone := v }
  | .nav => { p with nav := v }

/-- The CLASSES entry of a class (R110). -/
def Tables.classEntry (t : Tables) (k : AnnClass) : ClassEntry := t.classes.getD k.code ⟨0, 0, 0, false⟩

/-! ## Records of a channel -/

/-- The CH_ROUTE entry of a channel (R7). -/
def Tables.routeOf (t : Tables) (c : Nat) : Route := t.route.getD c Route.builtin

/-- The output stage's record of a channel. -/
def State.outChan (s : State) (c : Nat) : OutChan := s.output.getD c OutChan.reset

/-- The delay line of a channel. -/
def State.line (s : State) (c : Nat) : DelayLine := s.lines.getD c DelayLine.reset

/-- The record of a coefficient set. -/
def State.coeffSet (s : State) (i : Nat) : CoeffSet := s.integrity.sets.getD i CoeffSet.reset

/-! ## Seats -/

/-- Whether two sets of seats share a seat (R40, R43). -/
def Seats.meet (a b : Seats) : Bool :=
  a.frontLeft && b.frontLeft || a.frontRight && b.frontRight || a.rearLeft && b.rearLeft ||
    a.rearRight && b.rearRight

/-- The physical seats of a set of roles under DRIVER_SIDE, 0 LEFT and 1 RIGHT (R42). -/
def Roles.seats (driverSide : Int) (r : Roles) : Seats :=
  if driverSide = 1 then ⟨r.codriver, r.driver, r.rearLeft, r.rearRight⟩
  else ⟨r.driver, r.codriver, r.rearLeft, r.rearRight⟩

/-- The roles that a role byte marks; bits 4 to 7 are ignored (R115, R190). -/
def Roles.ofByte (b : Byte) : Roles := ⟨b.getLsbD 0, b.getLsbD 1, b.getLsbD 2, b.getLsbD 3⟩

/-- The role byte of a set of roles (R190). -/
def Roles.byte (r : Roles) : Byte := marksByte [r.driver, r.codriver, r.rearLeft, r.rearRight]

/-! ## Codes (R190) -/

/-- The code of a start-up state. -/
def StartState.code : StartState → Byte
  | .loading => 0 | .running => 1 | .tuneless => 2

/-- The code of a speed state. -/
def SpeedState.code : SpeedState → Byte
  | .fresh => 0 | .stale => 1 | .pulse => 2

/-- The code of a monitor state. -/
def MonitorState.code : MonitorState → Byte
  | .normal => 0 | .low => 1 | .high => 2 | .settling => 3

/-- The code of a fader state. -/
def FaderState.code : FaderState → Byte
  | .opened => 0 | .closing => 1 | .closed => 2 | .opening => 3

/-- The code of a set state. -/
def SetState.code : SetState → Byte
  | .good => 0 | .suspect => 1 | .restoring => 2 | .failed => 3

/-- The code of a region state. -/
def RegionState.code : RegionState → Byte
  | .valid => 0 | .blank => 1 | .corrupt => 2

/-- The code of a class state. -/
def ClassState.code : ClassState → Byte
  | .idle => 0 | .pending => 1 | .active _ => 2

/-- The code of the slot held: 0 for a class that is not ACTIVE. -/
def ClassState.slotCode : ClassState → Byte
  | .active .slot1 => 1 | .active .slot2 => 2 | _ => 0

/-- The code of a slot state. -/
def SlotRec.code : SlotRec → Byte
  | .free => 0 | .active _ => 1 | .draining => 2

/-- The code of a last-end reason. -/
def EndReason.code : EndReason → Byte
  | .none => 0 | .finished => 1 | .expired => 2 | .preempted => 3 | .withdrawn => 4

/-- The code of a reset cause. -/
def Cause.code : Cause → Byte
  | .powerOn => 0 | .supplyCut => 1 | .restartRequest => 2 | .resetPin => 3

/-- The code of a store operation. -/
def HostOp.code : HostOp → Nat
  | .saveFactory _ => 0 | .saveDealer _ => 1 | .saveStart _ => 2 | .close => 3

/-- The status codes (R180). -/
def Status.code : Status → Byte
  | .ok => 0x00 | .clamped => 0x01 | .notReady => 0x02 | .badLength => 0x03 | .badKind => 0x04 | .badId => 0x05
  | .badRange => 0x06 | .tableInvalid => 0x07 | .unstable => 0x08 | .busy => 0x09 | .isProtected => 0x0A
  | .notActive => 0x0B | .late => 0x0C | .wrongSource => 0x0D | .full => 0x0E | .noTuning => 0x0F

/-- The notice kinds (R182). -/
def Notice.code : Notice → Byte
  | .ready => 0x40 | .annState => 0x41 | .speedState => 0x42 | .supplyState => 0x43 | .coeffState => 0x44
  | .storeDone => 0x45 | .clip => 0x46

/-! ## CH_ROUTE entries on the link (R190) -/

/-- The zone of a code; 3 names none. -/
def Zone.ofCode : Nat → Option Zone
  | 0 => some .front | 1 => some .rear | 2 => some .cabin | _ => none

/-- The code of a zone. -/
def Zone.code : Zone → Nat
  | .front => 0 | .rear => 1 | .cabin => 2

/-- The leg of a code; 3 names none. -/
def Leg.ofCode : Nat → Option Leg
  | 0 => some .left | 1 => some .right | 2 => some .sum | _ => none

/-- The code of a leg. -/
def Leg.code : Leg → Nat
  | .left => 0 | .right => 1 | .sum => 2

/-- The side of a code; 3 names none. -/
def Side.ofCode : Nat → Option Side
  | 0 => some .left | 1 => some .centre | 2 => some .right | _ => none

/-- The code of a side. -/
def Side.code : Side → Nat
  | .left => 0 | .centre => 1 | .right => 2

/-- The row of a code; 3 names none. -/
def Row.ofCode : Nat → Option Row
  | 0 => some .front | 1 => some .mid | 2 => some .back | _ => none

/-- The code of a row. -/
def Row.code : Row → Nat
  | .front => 0 | .mid => 1 | .back => 2

/-- The CH_ROUTE entry of four bytes; `none` where a code names no member, tone_group is above 3 or a mark names no
seat (R9, R190). -/
def Route.ofBytes : List Byte → Option Route
  | [b0, b1, b2, b3] => do
    let zone ← Zone.ofCode (b0.extractLsb' 4 2).toNat
    let leg ← Leg.ofCode (b0.extractLsb' 2 2).toNat
    let side ← Side.ofCode (b0.extractLsb' 0 2).toNat
    let row ← Row.ofCode (b1.extractLsb' 6 2).toNat
    if (b2.extractLsb' 4 4).toNat ≠ 0 ∨ 3 < b3.toNat then none
    else some {
      enabled := b0.getLsbD 7, zone := zone, leg := leg, side := side, row := row, exempt := b1.getLsbD 5,
      seats := ⟨b2.getLsbD 0, b2.getLsbD 1, b2.getLsbD 2, b2.getLsbD 3⟩, toneGroup := b3.toNat,
      polarity := if b1.getLsbD 4 then .inverted else .normal }
  | _ => none

/-- The four bytes of a CH_ROUTE entry; ignored bits are sent as 0 (R190). -/
def Route.bytes (r : Route) : List Byte :=
  [BitVec.ofNat 8 ((if r.enabled then 128 else 0) + 16 * r.zone.code + 4 * r.leg.code + r.side.code),
   BitVec.ofNat 8 (64 * r.row.code + (if r.exempt then 32 else 0) + (if r.polarity = .inverted then 16 else 0)),
   marksByte [r.seats.frontLeft, r.seats.frontRight, r.seats.rearLeft, r.seats.rearRight],
   BitVec.ofNat 8 r.toneGroup]

/-! ## SPEED_CURVE and CLASSES entries on the link (R186, R190) -/

/-- A code for no or yes; any other value lies outside the field's range (R190). -/
def yesNo (b : Byte) : Option Bool := if b = 0 then some false else if b = 1 then some true else none

/-- The SPEED_CURVE entry of three bytes; `none` where a field is out of range (R87, R88). -/
def CurvePoint.ofBytes : List Byte → Option CurvePoint
  | [speed, boost, inUse] => do
    let u ← yesNo inUse
    if 48 < boost.toNat then none else some ⟨speed.toNat, boost.toNat, u⟩
  | _ => none

/-- The three bytes of a SPEED_CURVE entry. -/
def CurvePoint.bytes (p : CurvePoint) : List Byte := [byteOf p.speed, byteOf p.boost, flagByte p.inUse]

/-- The CLASSES entry of five bytes; `none` where a field is out of range (R110, R111). -/
def ClassEntry.ofBytes : List Byte → Option ClassEntry
  | [level, duckHi, duckLo, maxDuration, resume] => do
    let r ← yesNo resume
    if 3 < level.toNat ∨ 480 < u16 duckHi duckLo then none
    else some ⟨level.toNat, u16 duckHi duckLo, maxDuration.toNat, r⟩
  | _ => none

/-- The five bytes of a CLASSES entry. -/
def ClassEntry.bytes (e : ClassEntry) : List Byte :=
  byteOf e.level :: bytes2 e.duck ++ [byteOf e.maxDuration, flagByte e.resume]

end Sys2Proof.Machine
end

