-- ==== Sys2Proof/Machine/Flags.lean ====
section
/-! DEFINITION. Close-reason sets and what they do to a fader, the notice queue's marks, the counters' marks. -/

namespace Sys2Proof.Machine

/-! ## Close-reason sets (R59 to R62, R68) -/

/-- Whether a reason is in a set. -/
def Reasons.has (r : Reasons) : Reason → Bool
  | .startup => r.startup | .supply => r.supply | .fault => r.fault | .delay => r.delay | .disabled => r.disabled

/-- A set with one member present or absent. -/
def Reasons.put (r : Reasons) (x : Reason) (b : Bool) : Reasons :=
  match x with
  | .startup => { r with startup := b }
  | .supply => { r with supply := b }
  | .fault => { r with fault := b }
  | .delay => { r with delay := b }
  | .disabled => { r with disabled := b }

/-- Whether a set has no member. -/
def Reasons.isEmpty (r : Reasons) : Bool := !(r.startup || r.supply || r.fault || r.delay || r.disabled)

/-- The close-reason byte of a QUERY (R183). -/
def Reasons.byte (r : Reasons) : Byte := marksByte [r.startup, r.supply, r.fault, r.delay, r.disabled]

/-- A reason is added. An OPEN or OPENING fader whose set was empty becomes CLOSING; its level stays (R60, R61). -/
def OutChan.addReason (x : Reason) (o : OutChan) : OutChan :=
  let turns := o.fader.reasons.isEmpty && (o.fader.state = .opened || o.fader.state = .opening)
  { o with fader := { o.fader with
      reasons := o.fader.reasons.put x true
      state := if turns then .closing else o.fader.state } }

/-- A reason is removed. The last one gone, a fader becomes OPENING at its level (R60, R62), unless a delay is pending:
then DELAY takes the place of the last reason (R68). -/
def OutChan.removeReason (x : Reason) (o : OutChan) : OutChan :=
  let rest := o.fader.reasons.put x false
  if !o.fader.reasons.has x then o
  else if !rest.isEmpty then { o with fader := { o.fader with reasons := rest } }
  else if o.pendingDelay.isSome then { o with fader := { o.fader with reasons := rest.put .delay true } }
  else { o with fader := { o.fader with
      reasons := rest
      state := if o.fader.state = .closed || o.fader.state = .closing then .opening else o.fader.state } }

/-- The fader record as an event of a frame boundary leaves it, which a QUERY shows (R59, log entry 14). -/
def OutChan.show (o : OutChan) : OutChan := { o with shown := o.fader }

/-- The output stage with the records of all channels changed alike. -/
def State.mapOut (f : OutChan → OutChan) (s : State) : State := s.withOutput (s.output.map f)

/-- The output stage with the record of one channel changed. -/
def State.modifyOut (c : Nat) (f : OutChan → OutChan) (s : State) : State := s.withOutput (s.output.modify c f)

/-! ## Notices and counters of the link controller (R182, R184) -/

/-- A notice kind is posted: appended unless it is already waiting (R182). -/
def State.post (k : Notice) (s : State) : State :=
  if k ∈ s.link.notices then s else s.withLink { s.link with notices := s.link.notices ++ [k] }

/-- The CRC error counter rises by 1 (R177). -/
def State.countCrcError (s : State) : State := s.withLink { s.link with crcErrors := bump s.link.crcErrors }

/-- The gap counter rises by 1 (R177). -/
def State.countGap (s : State) : State := s.withLink { s.link with gaps := bump s.link.gaps }

/-- The discard counter rises by 1 (R179). -/
def State.countDiscard (s : State) : State := s.withLink { s.link with discards := bump s.link.discards }

/-- The invalid-speed-report counter rises by 1 (R75). -/
def State.countInvalidReport (s : State) : State :=
  s.withLink { s.link with invalidReports := bump s.link.invalidReports }

end Sys2Proof.Machine
end

