-- ==== Sys2Proof/Machine/Ops.lean ====
section
/-! DEFINITION. Operations that every family shares: holding in reset, sending, answering a request, one event. -/

namespace Sys2Proof.Machine

/-- What a step answers. -/
abbrev Answer := Host.Outcome State Fault Refusal

/-! ## The contents of notices (R190) -/

/-- READY (R176). -/
def readyContent (s : State) : List Byte :=
  [s.startup.state.code, s.record.cause.code, flagByte s.record.cutFlag, byteOf s.record.count,
   s.store.factoryState.code, s.store.dealerState.code, s.store.startState.code, flagByte s.store.closed,
   byteOf s.startup.skipped]

/-- The four bytes of a class in ANN_STATE (R131, R190). -/
def ClassRec.bytes (r : ClassRec) : List Byte := [r.state.code, r.roles.byte, r.state.slotCode, r.lastEnd.code]

/-- ANN_STATE (R131). -/
def annContent (s : State) : List Byte :=
  AnnClass.all.flatMap (fun k => (s.arbiter.classes.get k).bytes) ++
    [s.arbiter.slots.slot1.code, s.arbiter.slots.slot2.code]

/-- How many sets are in a state (R160). -/
def countSets (s : State) (x : SetState) : Nat := (s.integrity.sets.filter fun e => e.state = x).length

/-- COEFF_STATE (R160); the last three fields are 0 while the record is absent. -/
def coeffContent (s : State) : List Byte :=
  bytes2 (countSets s .suspect) ++ byteOf (countSets s .restoring) :: bytes2 (countSets s .failed) ++
    match s.integrity.last with
    | none => [0, 0, 0, 0, 0]
    | some t => 1 :: bytes2 t.index ++ [t.entered.code, flagByte t.reverted]

/-- STORE_DONE (R166): the last host operation completed and its result, 0 OK and 1 WRITE_FAILED. -/
def doneContent (s : State) : List Byte :=
  match s.store.lastDone with
  | none => [0, 0]
  | some (op, ok) => [byteOf op, if ok then 0 else 1]

/-- CLIP (R21, R190): bit n of byte k is channel 8k + n. -/
def clipContent (s : State) : List Byte :=
  (List.range 3).map fun k => marksByte ((List.range 8).map fun n => (s.outChan (8 * k + n)).inClipSet)

/-- The content of a notice, from the owning block as it stands (R182). -/
def noticeContent (s : State) : Notice → List Byte
  | .ready => readyContent s
  | .annState => annContent s
  | .speedState => [s.tracker.state.code, byteOf s.tracker.sf]
  | .supplyState => [s.supply.state.code, byteOf s.supply.reading]
  | .coeffState => coeffContent s
  | .storeDone => doneContent s
  | .clip => clipContent s

/-! ## Sending (R181, R182) -/

/-- The bytes of a frame: SYNC, LENGTH, KIND, TAG, PAYLOAD, CRC high byte first (R177, R178). -/
def Frame.bytes (f : Frame) : List Byte :=
  let body := byteOf (2 + f.payload.length) :: f.kind :: f.tag :: f.payload
  0xA5 :: body ++ [(crc16 body).extractLsb' 8 8, (crc16 body).extractLsb' 0 8]

/-- The transmitter begins sending the reply at the head of the reply queue (R179, R181). -/
def beginReply (s : State) : State :=
  match s.link.replies with
  | [] => s
  | r :: rest => s.withLink { s.link with tx := some r, replies := rest }

/-- The transmitter begins sending the notice at the head of the notice queue, with its content as it stands; sending
CLIP empties the clip set (R21, R182). -/
def beginNotice (s : State) : State :=
  match s.link.notices with
  | [] => s
  | k :: rest =>
    let sent := s.withLink { s.link with tx := some ⟨k.code, 0, noticeContent s k⟩, notices := rest }
    if k = .clip then sent.mapOut fun o => { o with inClipSet := false } else sent

/-- The transmitter has finished a frame: the next reply, or else the next notice, or idle (R181). -/
def beginNext (s : State) : State :=
  if s.link.replies ≠ [] then beginReply s else beginNotice s

/-- An idle transmitter begins a frame in the event in which a reply is appended or a notice is posted (R181). Where
one event does both, which of them is sent first is a free choice (log entry 7). -/
def pump (s : State) : State :=
  if s.link.tx.isSome then s
  else if s.link.replies ≠ [] ∧ s.link.notices ≠ [] then
    let drawn := s.withDraws (s.draws + 1)
    if Config.noticeFirst s.draws then beginNotice drawn else beginReply drawn
  else beginNext s

/-! ## Reset -/

/-- Whether anything holds the part in reset (R142, R175, R185). -/
def State.held (s : State) : Bool := s.hold.supply || s.hold.pin || s.hold.restart

/-- The store after a reset has cut off its operation: an interrupted save leaves its region CORRUPT; an interrupted
CLOSE, restore read or LOAD writes nothing; waiting requests are lost (R168). -/
def Store.interrupted (st : Store) : Store :=
  let gone := { st with running := none, waiting := none }
  match st.running with
  | some (.host (.saveFactory _)) => { gone with factoryState := .corrupt }
  | some (.host (.saveDealer _)) => { gone with dealerState := .corrupt }
  | some (.host (.saveStart _)) => { gone with startState := .corrupt }
  | _ => gone

/-- The marks of a hold that begins (R142, R175, R185). -/
def ResetHold.add (h : ResetHold) : Hold → ResetHold
  | .supplyCut => { h with supply := true, cutSeen := true }
  | .resetPin => { h with pin := true }
  | .restartRequest => { h with restart := true }

/-- A reset of any cause is taken: the store operation is cut off (R168), replies and notices waiting or in
transmission are lost (R142, R182, R185), every output line carries zero (R1), and the part is held. The volatile
state takes its reset values at the release (R172). -/
def enterReset (h : Hold) (s : State) : State :=
  ((((s.withStore s.store.interrupted).withRead none).withLink Link.reset).withAudio Audio.reset).withHold
    (s.hold.add h)

/-! ## Events and requests -/

/-- One event of the part. Held in reset, the part takes none (R1, R142, R177). -/
def event (f : State → State) (s : State) : Answer := .next (if s.held then s else pump (f s))

/-- What the handling of a request gives: the state, the status, and the reply content after the status (R179). -/
structure Handled where
  state : State
  status : Status
  content : List Byte
  deriving DecidableEq, Repr

/-- A request refused or answered without change and without content. -/
def Handled.refuse (s : State) (x : Status) : Handled := ⟨s, x, []⟩

/-- A request answered OK without content. -/
def Handled.done (s : State) : Handled := ⟨s, .ok, []⟩

/-- The reply frame is formed and appended to the reply queue (R179). -/
def appendReply (kind tag : Byte) (h : Handled) : State :=
  h.state.withLink { h.state.link with
    replies := h.state.link.replies ++ [⟨kind + 0x80, tag, h.status.code :: h.content⟩] }

/-- The last byte of a good frame has arrived: the assembler hunts for SYNC again (R177). -/
def frameTaken (s : State) : State := s.withLink { s.link with assembler := .hunting }

/-- The common checks of R180 after the kind's own: the length, then LOADING for every kind but QUERY. -/
def commonChecks (lengthOk readyNeeded : Bool) (handle : State → Handled) (s : State) : Handled :=
  if !lengthOk then Handled.refuse s .badLength
  else if readyNeeded && s.startup.state = .loading then Handled.refuse s .notReady
  else handle s

/-- Dispatch of a good frame (R179): with four replies waiting it is discarded and counted; otherwise it is handled in
the same event and its reply appended. -/
def dispatch (kind tag : Byte) (handle : State → Handled) (s : State) : State :=
  if 4 ≤ s.link.replies.length then s.countDiscard else appendReply kind tag (handle s)

/-- A request whose kind is known: common checks, owning block, reply (R179, R180). -/
def request (kind tag : Byte) (lengthOk readyNeeded : Bool) (handle : State → Handled) (s : State) : Answer :=
  event (fun s => dispatch kind tag (commonChecks lengthOk readyNeeded handle) (frameTaken s)) s

end Sys2Proof.Machine
end

