-- ==== Sys2Proof/Machine/Speed.lean ====
section
/-! DEFINITION. Speed compensation (chapter 4): SPEED, SPEED_TRACKER_BOUNDARY, STALE_TIMEOUT, WINDOW_END, PULSE_COUNTED. -/

namespace Sys2Proof.Machine

/-! ## The curve, the strength and the bass offset -/

/-- The boost at a speed, read from breakpoints (speed, boost) in order (R89). -/
def curveBoost (sf : Nat) : List (Nat × Nat) → Nat
  | [] => 0
  | [(_, g)] => g
  | (s0, g0) :: (s1, g1) :: rest =>
    if sf < s1 then g0 + (g1 - g0) * (sf - s0) / (s1 - s0) else curveBoost sf ((s1, g1) :: rest)

/-- The in-use breakpoints, in index order (R87). -/
def inUsePoints (curve : List CurvePoint) : List (Nat × Nat) :=
  (curve.filter (·.inUse)).map fun p => (p.speed, p.boost)

/-- The scaled boost: min(48, floor(boost × L / 4)) (R90). -/
def scaleBoost (boost : Nat) (level : Int) : Nat := min 48 (boost * level.toNat / 4)

/-- The bass offset: 0 for SDV_BASS_DIV 0, else floor(bs / d) (R91). -/
def bassOffsetOf (bs : Nat) (d : Int) : Nat := if d = 0 then 0 else bs / d.toNat

/-- The tracker recomputes the boost, the scaled boost and the bass offset, in that order (R92). -/
def recompute (s : State) : State :=
  let boost := curveBoost s.tracker.sf (inUsePoints s.tables.speedCurve)
  let bs := scaleBoost boost (s.planner.live.val .sdvLevel)
  s.withTracker { s.tracker with
    boost := boost, scaledBoost := bs, bassOffset := bassOffsetOf bs (s.tables.global .sdvBassDiv) }

/-! ## Samples -/

/-- The hysteresis filter (R85). -/
def filterSpeed (sf sample hyst : Nat) : Nat :=
  if sample = 0 ∨ sf + hyst ≤ sample ∨ sample + hyst ≤ sf then sample else sf

/-- A sample is recorded and filtered; a change of Sf recomputes the derived values (R74, R81). -/
def takeSample (sample : Nat) (s : State) : State :=
  let sf := filterSpeed s.tracker.sf sample (s.tables.global .speedHyst).toNat
  let taken := s.withTracker { s.tracker with lastSample := sample, sf := sf }
  if sf = s.tracker.sf then taken else recompute taken

/-- Whether SPEED_SOURCE is PULSE (R72). -/
def pulseSource (s : State) : Bool := s.tables.global .speedSource = 1

/-- The sample of a report: min(255, floor(v / 100)) (R74). -/
def reportSample (v : Nat) : Nat := min 255 (v / 100)

/-- A valid report: the stale counter to 0, STALE to FRESH with its notice (R79), then the sample (R74). -/
def validReport (v : Nat) (s : State) : State :=
  let zeroed := s.withTracker { s.tracker with staleCount := 0 }
  let fresh :=
    if s.tracker.state = .stale then
      (zeroed.withTracker { zeroed.tracker with state := .fresh }).post .speedState
    else zeroed
  takeSample (reportSample v) fresh

/-- SPEED after the common checks (R74, R75, R76). -/
def handleSpeed (payload : List Byte) (s : State) : Handled :=
  if pulseSource s then Handled.refuse s .wrongSource
  else match payload with
    | [hi, lo, valid] =>
      if lowBit valid then Handled.done (validReport (u16 hi lo) s) else Handled.done s.countInvalidReport
    | _ => Handled.refuse s .badLength

/-- SPEED (R74 to R76). -/
def execSpeed (tag : Byte) (payload : List Byte) (s : State) : Answer :=
  request 0x04 tag (payload.length = 3) true (handleSpeed payload) s

/-! ## Frame boundaries -/

/-- The stale limit in frames: STALE_TIME × 100 (R77). -/
def staleLimit (s : State) : Nat := (s.tables.global .staleTime).toNat * 100

/-- FRESH whose stale counter stands at or above the limit becomes STALE with its notice (R77). -/
def goStale (s : State) : State :=
  if s.tracker.state = .fresh ∧ staleLimit s ≤ s.tracker.staleCount then
    (s.withTracker { s.tracker with state := .stale }).post .speedState
  else s

/-- The sample of a window: min(255, floor(n × 14400 / P)) (R81). -/
def windowSample (n : Nat) (p : Nat) : Nat := min 255 (n * 14400 / p)

/-- A window end (R81). -/
def endWindow (s : State) : State :=
  let sample := windowSample s.tracker.windowPulses (s.tables.global .pulseConst).toNat
  takeSample sample (s.withTracker { s.tracker with windowPulses := 0, windowFrames := 0 })

/-- The tracker at a frame boundary: in FRESH the stale counter and its limit (R77), in PULSE the window (R81). -/
def trackerBoundary (s : State) : State :=
  match s.tracker.state with
  | .fresh => goStale (s.withTracker { s.tracker with staleCount := s.tracker.staleCount + 1 })
  | .stale => s
  | .pulse =>
    if 250 ≤ s.tracker.windowFrames + 1 then endWindow s
    else s.withTracker { s.tracker with windowFrames := s.tracker.windowFrames + 1 }

/-- SPEED_TRACKER_BOUNDARY (R77, R81): the tracker's whole boundary event. -/
def execSpeedTrackerBoundary (s : State) : Answer := event trackerBoundary s

/-- STALE_TIMEOUT (R77): the comparison of the stale counter with its limit. -/
def execStaleTimeout (s : State) : Answer := event goStale s

/-- WINDOW_END (R81): the boundary at which the window frame count reaches 250; no other boundary is one. -/
def execWindowEnd (s : State) : Answer :=
  event (fun s => if s.tracker.state = .pulse ∧ 250 ≤ s.tracker.windowFrames + 1 then endWindow s else s) s

/-- The direction that counts (R72, R80). -/
def countedEdge (s : State) : Edge := if s.tables.global .pulseEdge = 1 then .falling else .rising

/-- A transition of WHEEL_PULSE (R80): counted in PULSE mode in the direction of PULSE_EDGE, up to 4095 a window. -/
def wheelPulse (edge : Edge) (s : State) : State :=
  if pulseSource s ∧ edge = countedEdge s then
    s.withTracker { s.tracker with windowPulses := min 4095 (s.tracker.windowPulses + 1) }
  else s

/-- PULSE_COUNTED (R80). -/
def execPulseCounted (edge : Edge) (s : State) : Answer := event (wheelPulse edge) s

/-! ## What a GLOBALS write does in the tracker -/

/-- A switch to PULSE (R83). -/
def switchToPulse (s : State) : State :=
  (s.withTracker { s.tracker with state := .pulse, windowFrames := 0, windowPulses := 0 }).post .speedState

/-- A switch to REPORT (R84). -/
def switchToReport (s : State) : State :=
  (s.withTracker { s.tracker with state := .stale, staleCount := 0 }).post .speedState

/-- The tracker after GLOBALS has changed from an earlier table (R83, R84, R91): a changed source switches it, a
changed SDV_BASS_DIV recomputes the derived values. -/
def trackerActs (before : Tables) (s : State) : State :=
  let switched :=
    if s.tables.global .speedSource = before.global .speedSource then s
    else if pulseSource s then switchToPulse s else switchToReport s
  if s.tables.global .sdvBassDiv = before.global .sdvBassDiv then switched else recompute switched

end Sys2Proof.Machine
end

