-- ==== Sys2Proof/Machine/Scene.lean ====
section
/-! DEFINITION. The gain plan (chapter 2): SET, COMMIT, COMMIT_TAKEN, PLANNER_BOUNDARY. -/

namespace Sys2Proof.Machine

/-! ## SET and COMMIT -/

/-- The setting pairs of a SET payload after its hold byte: id and signed value (R190). -/
def settingPairs : List Byte → List (Nat × Int)
  | id :: value :: rest => (u8 id, s8 value) :: settingPairs rest
  | _ => []

/-- Whether an id names a setting (R24). -/
def knownSetting (id : Nat) : Bool := 1 ≤ id && id ≤ 17

/-- The value used for a value sent: clamped to its setting's range (R24). -/
def usedValue (id : Nat) (v : Int) : Int :=
  let r := settingRanges.getD (id - 1) (0, 0)
  clamp r.1 r.2 v

/-- Values placed in the pending scene in order; a later value for an id wins (R27). -/
def placePairs (pairs : List (Nat × Int)) (waiting : List (Option Int)) : List (Option Int) :=
  pairs.foldl (fun w p => w.set (p.1 - 1) (some (usedValue p.1 p.2))) waiting

/-- The pairs whose value was replaced, with the value used, in order (R24). -/
def clampedPairs (pairs : List (Nat × Int)) : List (Nat × Int) :=
  (pairs.filter fun p => usedValue p.1 p.2 ≠ p.2).map fun p => (p.1, usedValue p.1 p.2)

/-- SET after the common checks (R24, R27, R28). -/
def handleSet (payload : List Byte) (s : State) : Handled :=
  match payload with
  | [] => Handled.refuse s .badLength
  | hold :: rest =>
    let pairs := settingPairs rest
    if !(pairs.all fun p => knownSetting p.1) then Handled.refuse s .badId
    else
      let clamped := clampedPairs pairs
      { state := s.withPlanner { s.planner with
          waiting := placePairs pairs s.planner.waiting
          commitMark := s.planner.commitMark || !lowBit hold }
        status := if clamped.isEmpty then .ok else .clamped
        content := clamped.flatMap fun p => [byteOf p.1, byteOf p.2] }

/-- The payload lengths of SET: 1 + 2k, k from 1 to 17 (R180). -/
def setLengthOk (n : Nat) : Bool := n % 2 = 1 && 3 ≤ n && n ≤ 35

/-- SET (R24, R27, R28). -/
def execSet (tag : Byte) (payload : List Byte) (s : State) : Answer :=
  request 0x01 tag (setLengthOk payload.length) true (handleSet payload) s

/-- How many entries the pending scene holds (R23). -/
def pendingCount (p : Planner) : Nat := (p.waiting.filter Option.isSome).length

/-- COMMIT after the common checks (R29). -/
def handleCommit (s : State) : Handled :=
  Handled.done (if pendingCount s.planner = 0 then s else s.withPlanner { s.planner with commitMark := true })

/-- COMMIT (R29). -/
def execCommit (tag : Byte) (payload : List Byte) (s : State) : Answer :=
  request 0x02 tag (payload.length = 0) true handleCommit s

/-! ## The commit -/

/-- The live scene with every entry of the pending scene written into it (R30). -/
def commitScene (live : Scene) (waiting : List (Option Int)) : Scene :=
  (live.zipIdx).map fun p => (waiting.getD p.2 none).getD p.1

/-- The commit at a planner boundary with the mark set (R30); a change of SDV_LEVEL recomputes the tracker's values
in it (R92). -/
def takeCommit (s : State) : State :=
  let live := commitScene s.planner.live s.planner.waiting
  let committed := s.withPlanner { s.planner with
    live := live, waiting := s.planner.waiting.map fun _ => none, commitMark := false }
  if live.val .sdvLevel = s.planner.live.val .sdvLevel then committed else recompute committed

/-- The commit where the mark is set; nothing where it is clear (R30). -/
def commitIfMarked (s : State) : State := if s.planner.commitMark then takeCommit s else s

/-- COMMIT_TAKEN (R30). -/
def execCommitTaken (s : State) : Answer := event commitIfMarked s

/-! ## What a channel follows (R25, R26) -/

/-- Whether ZONE_MODE is SEPARATE (R22). -/
def separate (live : Scene) : Bool := live.val .zoneMode = 1

/-- Whether a channel follows the rear settings (R12, R25). -/
def followsRear (live : Scene) (r : Route) : Bool := separate live && r.zone = .rear

/-- The volume step (R25). -/
def volumeStep (live : Scene) (r : Route) : Int :=
  if followsRear live r then live.val .volRear else live.val .volFront

/-- Whether the programme is muted (R25). -/
def muted (live : Scene) (r : Route) : Bool :=
  if followsRear live r then live.val .muteRear = 1 else live.val .muteFront = 1

/-- The user bass (R25). -/
def userBass (live : Scene) (r : Route) : Int :=
  if followsRear live r then live.val .bassRear else live.val .bass

/-- The user treble (R25). -/
def userTreble (live : Scene) (r : Route) : Int :=
  if followsRear live r then live.val .trebleRear else live.val .treble

/-- The effective fade (R26). -/
def effectiveFade (live : Scene) : Int := if separate live then 0 else live.val .fade

/-! ## The programme target (R36 to R41) -/

/-- Step 2, the balance attenuation (R37). -/
def balanceAtt (t : Tables) (b : Int) (r : Route) : Int :=
  let a := t.balance.getD b.natAbs 0
  if r.exempt || b = 0 then 0
  else match r.side with
    | .left => if 0 < b then a else 0
    | .right => if b < 0 then a else 0
    | .centre => a / 2

/-- Step 3, the fade attenuation (R38). -/
def fadeAtt (t : Tables) (f : Int) (r : Route) : Int :=
  let a := t.fade.getD f.natAbs 0
  if r.exempt || f = 0 then 0
  else match r.row with
    | .back => if 0 < f then a else 0
    | .front => if f < 0 then a else 0
    | .mid => a / 2

/-- The channel's share of the scaled boost: floor(bs × w / 16) (R39). -/
def boostShare (bs : Nat) (weight : Int) : Int := (bs : Int) * weight / 16

/-- Step 4, the boost under the knee (R39). -/
def kneeBoost (share knee gv : Int) : Int := min share (max 0 (knee - gv))

/-- The physical seats of a class: none unless it is ACTIVE (R40, R42). -/
def activeSeats (s : State) (k : AnnClass) : Option Seats :=
  match (s.arbiter.classes.get k).state with
  | .active _ => some ((s.arbiter.classes.get k).roles.seats (s.planner.live.val .driverSide))
  | _ => none

/-- Step 5, the duck: the largest among the ACTIVE classes that reach the channel's seats (R40). -/
def duckOf (s : State) (r : Route) : Int :=
  AnnClass.all.foldl (fun d k =>
    match activeSeats s k with
    | some seats => if seats.meet r.seats then max d (s.tables.classEntry k).duck else d
    | none => d) 0

/-- Step 7, and the same limit for slot targets: the ceiling, then the floor (R41, R43). -/
def limitTarget (ceiling v : Int) : Int := if min ceiling v ≤ -480 then -480 else min ceiling v

/-- The share of the boost that a channel takes (R39). -/
def shareOf (s : State) (c : Nat) : Int := boostShare s.tracker.scaledBoost (s.tables.sdvWeight.getD c 0)

/-- The programme target of a channel (R36 to R41). -/
def progTarget (s : State) (c : Nat) : Int :=
  let r := s.tables.routeOf c
  let v := volumeStep s.planner.live r
  let gv := s.tables.volume.getD v.toNat (-480)
  if v = 0 ∨ muted s.planner.live r ∨ gv = -480 then -480
  else limitTarget (s.tables.ceiling.getD c 0)
    (gv - balanceAtt s.tables (s.planner.live.val .balance) r - fadeAtt s.tables (effectiveFade s.planner.live) r +
      kneeBoost (shareOf s c) (s.tables.global .sdvKnee) gv - duckOf s r + s.tables.trim.getD c 0)

/-! ## The slot targets (R43) -/

/-- The target of a slot path of a channel (R43). -/
def slotTarget (s : State) (k : Slot) (c : Nat) : Int :=
  match s.arbiter.slots.get k with
  | .active x =>
    let seats := (s.arbiter.classes.get x).roles.seats (s.planner.live.val .driverSide)
    let vol := s.planner.live.val x.volume
    if seats.meet (s.tables.routeOf c).seats ∧ 0 < vol then
      limitTarget (s.tables.ceiling.getD c 0)
        (s.tables.annVolume.getD vol.toNat (-480) + s.tables.annTrim.getD c 0 + shareOf s c)
    else -480
  | _ => -480

/-! ## The planner at a frame boundary (R46) -/

/-- The effective tone steps of a channel (R45). -/
def toneSteps (s : State) (c : Nat) : ToneSteps :=
  let r := s.tables.routeOf c
  ⟨clamp (-12) 12 (userBass s.planner.live r + s.tracker.bassOffset), clamp (-12) 12 (userTreble s.planner.live r)⟩

/-- The programme source of a channel (R12). -/
def sourceOf (live : Scene) (r : Route) : ProgSource := if followsRear live r then .progB else .progA

/-- The three targets of a channel. -/
def targetsOf (s : State) (c : Nat) : PathGains :=
  ⟨progTarget s c, slotTarget s .slot1 c, slotTarget s .slot2 c⟩

/-- Every target, every tone step, and the source and leg that the mixer takes for the frame (R5, R12, R46). -/
def computePlan (s : State) : State :=
  (s.withPlanner { s.planner with
      targets := (List.range 24).map (targetsOf s)
      tone := (List.range 24).map (toneSteps s)
      readCeiling := (List.range 24).map fun c => s.tables.ceiling.getD c 0 }).withMixer
    ((List.range 24).map fun c =>
      ⟨sourceOf s.planner.live (s.tables.routeOf c), (s.tables.routeOf c).leg⟩)

/-- PLANNER_BOUNDARY (R46): the commit if one is marked, then the targets, then the tone steps. -/
def execPlannerBoundary (s : State) : Answer := event (fun s => computePlan (commitIfMarked s)) s

end Sys2Proof.Machine
end

