-- ==== Sys2Proof/Machine/Announce.lean ====
section
/-! DEFINITION. Announcements (chapter 6): ANN_START, ANN_END, DRAIN_COMPLETION, ARBITER_BOUNDARY, EXPIRY. -/

namespace Sys2Proof.Machine

/-! ## Records and rank -/

/-- The arbiter with one class record changed. -/
def Arbiter.putClass (a : Arbiter) (k : AnnClass) (r : ClassRec) : Arbiter := { a with classes := a.classes.put k r }

/-- The arbiter with one slot record changed. -/
def Arbiter.putSlot (a : Arbiter) (k : Slot) (r : SlotRec) : Arbiter := { a with slots := a.slots.put k r }

/-- Whether a class ranks above another: a higher level, or an equal one and an earlier place (R109, R114). -/
def ranksAbove (t : Tables) (a b : AnnClass) : Bool :=
  (t.classEntry b).level < (t.classEntry a).level ||
    (t.classEntry a).level = (t.classEntry b).level && a.code < b.code

/-- A class put among classes ordered by rank, the highest first. -/
def insertRanked (t : Tables) (k : AnnClass) : List AnnClass → List AnnClass
  | [] => [k]
  | x :: rest => if ranksAbove t k x then k :: x :: rest else x :: insertRanked t k rest

/-- The four classes in rank order, the highest first (R114). -/
def rankOrder (t : Tables) : List AnnClass := AnnClass.all.foldl (fun l k => insertRanked t k l) []

/-- Whether a class is PENDING. -/
def Arbiter.isPending (a : Arbiter) (k : AnnClass) : Bool := (a.classes.get k).state = .pending

/-- The slot of a class, while it is ACTIVE (R112). -/
def Arbiter.slotOf (a : Arbiter) (k : AnnClass) : Option Slot :=
  match (a.classes.get k).state with
  | .active slot => some slot
  | _ => none

/-- The PENDING classes in rank order (R120). -/
def pendingRanked (t : Tables) (a : Arbiter) : List AnnClass := (rankOrder t).filter a.isPending

/-- The ACTIVE classes in rank order (R121). -/
def activeRanked (t : Tables) (a : Arbiter) : List AnnClass := (rankOrder t).filter fun k => (a.slotOf k).isSome

/-- The first FREE slot, SLOT1 before SLOT2 (R120). -/
def Arbiter.freeSlot (a : Arbiter) : Option Slot :=
  if a.slots.slot1 = .free then some .slot1 else if a.slots.slot2 = .free then some .slot2 else none

/-- How many slots are DRAINING (R121). -/
def Arbiter.draining (a : Arbiter) : Nat :=
  (if a.slots.slot1 = .draining then 1 else 0) + (if a.slots.slot2 = .draining then 1 else 0)

/-! ## Arbitration (R119 to R122) -/

/-- A class is granted a slot: ACTIVE, its timer at 0 (R120). -/
def Arbiter.grant (a : Arbiter) (k : AnnClass) (slot : Slot) : Arbiter :=
  (a.putClass k { a.classes.get k with state := .active slot, timer := 0 }).putSlot slot (.active k)

/-- One grant step: the highest-ranked PENDING class takes the first FREE slot (R120). -/
def grantOne (t : Tables) (a : Arbiter) : Arbiter :=
  match a.freeSlot, pendingRanked t a with
  | some slot, k :: _ => a.grant k slot
  | _, _ => a

/-- The grant step as often as it applies: there are two slots (R120). -/
def grantAll (t : Tables) (a : Arbiter) : Arbiter := grantOne t (grantOne t a)

/-- A pre-emption: the slot becomes DRAINING, the victim PENDING if it resumes and otherwise IDLE (R122). -/
def preempt (t : Tables) (a : Arbiter) (k : AnnClass) (slot : Slot) : Arbiter :=
  let r := a.classes.get k
  let out := if (t.classEntry k).resume then { r with state := .pending }
    else { r with state := .idle, lastEnd := .preempted }
  (a.putClass k out).putSlot slot .draining

/-- The victim of the pre-emption step, with its slot, if there is one (R121). -/
def victim (t : Tables) (a : Arbiter) : Option (AnnClass × Slot) :=
  if a.freeSlot.isSome then none
  else
    match (pendingRanked t a).drop a.draining, (activeRanked t a).getLast? with
    | k :: _, some low =>
      if (t.classEntry low).level < (t.classEntry k).level then (a.slotOf low).map fun slot => (low, slot) else none
    | _, _ => none

/-- Grant steps and pre-emption steps until neither changes anything (R119). Two slots allow two pre-emptions, so three
rounds always end it. -/
def arbitrateRounds (t : Tables) : Nat → Arbiter → Arbiter
  | 0, a => a
  | n + 1, a =>
    let granted := grantAll t a
    match victim t granted with
    | none => granted
    | some (k, slot) => arbitrateRounds t n (preempt t granted k slot)

/-- Arbitration over the arbiter's records (R119). -/
def arbitrated (t : Tables) (a : Arbiter) : Arbiter := arbitrateRounds t 4 a

/-- Arbitration inside an event; ANN_STATE is posted if it changed a record (R119, R131). -/
def arbitrate (s : State) : State :=
  let a := arbitrated s.tables s.arbiter
  if a = s.arbiter then s else (s.withArbiter a).post .annState

/-! ## ANN_START and ANN_END -/

/-- Whether a set of roles has a member (R115). -/
def Roles.isEmpty (r : Roles) : Bool := !(r.driver || r.codriver || r.rearLeft || r.rearRight)

/-- An ANN_START taken for a class (R117, R118). -/
def startClass (k : AnnClass) (roles : Roles) (s : State) : State :=
  let r := s.arbiter.classes.get k
  match r.state with
  | .idle => arbitrate ((s.withArbiter (s.arbiter.putClass k ⟨.pending, roles, .none, 0⟩)).post .annState)
  | .pending | .active _ =>
    if roles = r.roles then s
    else (s.withArbiter (s.arbiter.putClass k { r with roles := roles })).post .annState

/-- ANN_START after the common checks (R116). -/
def handleAnnStart (payload : List Byte) (s : State) : Handled :=
  match payload with
  | [code, marks] =>
    match AnnClass.ofCode code.toNat with
    | none => Handled.refuse s .badId
    | some k =>
      if (Roles.ofByte marks).isEmpty then Handled.refuse s .badRange
      else Handled.done (startClass k (Roles.ofByte marks) s)
  | _ => Handled.refuse s .badLength

/-- ANN_START (R116 to R118). -/
def execAnnStart (tag : Byte) (payload : List Byte) (s : State) : Answer :=
  request 0x05 tag (payload.length = 2) true (handleAnnStart payload) s

/-- An ACTIVE class leaves its slot, which becomes DRAINING, and becomes IDLE with a reason (R124, R126). -/
def Arbiter.endActive (a : Arbiter) (k : AnnClass) (slot : Slot) (reason : EndReason) : Arbiter :=
  (a.putClass k { a.classes.get k with state := .idle, lastEnd := reason }).putSlot slot .draining

/-- An ANN_END taken for a class (R124). -/
def endClass (k : AnnClass) (s : State) : Handled :=
  let r := s.arbiter.classes.get k
  match r.state with
  | .active slot => Handled.done ((s.withArbiter (s.arbiter.endActive k slot .finished)).post .annState)
  | .pending =>
    Handled.done
      ((s.withArbiter (s.arbiter.putClass k { r with state := .idle, lastEnd := .withdrawn })).post .annState)
  | .idle =>
    if r.lastEnd = .expired ∨ r.lastEnd = .preempted then Handled.refuse s .late else Handled.refuse s .notActive

/-- ANN_END after the common checks (R124). -/
def handleAnnEnd (payload : List Byte) (s : State) : Handled :=
  match payload with
  | [code] =>
    match AnnClass.ofCode code.toNat with
    | none => Handled.refuse s .badId
    | some k => endClass k s
  | _ => Handled.refuse s .badLength

/-- ANN_END (R124). -/
def execAnnEnd (tag : Byte) (payload : List Byte) (s : State) : Answer :=
  request 0x06 tag (payload.length = 1) true (handleAnnEnd payload) s

/-! ## Drain completions, timers, expiry -/

/-- The arbiter takes a drain completion that the ramp unit has handed: the slot becomes FREE and arbitration runs
(R58, R123). -/
def takeDrain (slot : Slot) (s : State) : State :=
  if s.ramp.handed.get slot then
    let taken := s.withRamp { s.ramp with handed := s.ramp.handed.put slot false }
    if s.arbiter.slots.get slot = .draining then
      arbitrate ((taken.withArbiter (s.arbiter.putSlot slot .free)).post .annState)
    else taken
  else s

/-- DRAIN_COMPLETION (R123). -/
def execDrainCompletion (slot : Slot) (s : State) : Answer := event (takeDrain slot) s

/-- The duration timer of a class record at a boundary: ACTIVE classes count, up to 255 000 (R125). -/
def ClassRec.tick (r : ClassRec) : ClassRec :=
  match r.state with
  | .active _ => { r with timer := min 255000 (r.timer + 1) }
  | _ => r

/-- The duration timers at a boundary (R125). -/
def Arbiter.tick (a : Arbiter) : Arbiter :=
  { a with classes := ⟨a.classes.alert.tick, a.classes.park.tick, a.classes.phone.tick, a.classes.nav.tick⟩ }

/-- The slot of a class that expires: ACTIVE with a limit, and the timer at or above it (R126). -/
def expiring (t : Tables) (a : Arbiter) (k : AnnClass) : Option Slot :=
  let limit := (t.classEntry k).maxDuration
  if limit ≠ 0 ∧ limit * 1000 ≤ (a.classes.get k).timer then a.slotOf k else none

/-- One class expires if it is due (R126). -/
def expireOne (t : Tables) (k : AnnClass) (a : Arbiter) : Arbiter :=
  match expiring t a k with
  | some slot => a.endActive k slot .expired
  | none => a

/-- Every class that is due expires (R126). -/
def expireAll (t : Tables) (a : Arbiter) : Arbiter :=
  expireOne t .nav (expireOne t .phone (expireOne t .park (expireOne t .alert a)))

/-- The comparison of R126 for every class; ANN_STATE is posted if one expired (R131). -/
def expire (s : State) : State :=
  let a := expireAll s.tables s.arbiter
  if a = s.arbiter then s else (s.withArbiter a).post .annState

/-- ARBITER_BOUNDARY (R125, R126): the arbiter's whole boundary event, the increments and then the comparison. -/
def execArbiterBoundary (s : State) : Answer := event (fun s => expire (s.withArbiter s.arbiter.tick)) s

/-- EXPIRY (R126): the comparison of the timers with their limits. -/
def execExpiry (s : State) : Answer := event expire s

end Sys2Proof.Machine
end

