-- ==== Sys2Proof/Machine/CoeffIntegrity.lean ====
section
/-! DEFINITION. Coefficient integrity and restoration (chapter 8): UPSET, SCANNER_CHECK, READ_SET_BEGIN,
READ_SET_COMPLETE, what a host write of sets does, and which store operation begins next (R165). -/

namespace Sys2Proof.Machine

/-! ## Check bits (R147) -/

/-- The check of a set: it passes when nothing has changed since the words were put in place, fails for a change of one
or two bits (R147), and is a free value beyond that (log entry 8). -/
def checkPasses (e : CoeffSet) : Bool :=
  let d := wordsDistance e.words e.placed + popcount e.checkFlips
  if d = 0 then true else if d ≤ 2 then false else Config.checkAgrees e.words e.placed e.checkFlips

/-- The integrity checker with one set's record changed. -/
def State.modifySet (i : Nat) (f : CoeffSet → CoeffSet) (s : State) : State :=
  s.withIntegrity { s.integrity with sets := s.integrity.sets.modify i f }

/-- The last transition is recorded, with its reverted flag, and COEFF_STATE posted (R160). -/
def recordTransition (i : Nat) (entered : SetState) (reverted : Bool) (s : State) : State :=
  (s.withIntegrity { s.integrity with last := some ⟨i, entered, reverted⟩ }).post .coeffState

/-- Whether all six fixed sets of a channel are GOOD (R153). -/
def fixedAllGood (s : State) (c : Nat) : Bool :=
  (List.range 6).all fun k => (s.coeffSet (6 * c + k)).state = .good

/-- FAULT leaves the channel of a fixed set that has returned to GOOD, if all six are GOOD (R153). -/
def clearFault (i : Nat) (s : State) : State :=
  if i < 144 ∧ fixedAllGood s (i / 6) then s.modifyOut (i / 6) (OutChan.removeReason .fault) else s

/-! ## Leaving GOOD (R151) -/

/-- A failing check of a GOOD set: SUSPECT, queued, FAULT for a fixed set, the record, the notice (R151). The checks fall at
frame boundaries (R149, R150), so that R59 shows the FAULT. -/
def leaveGood (i : Nat) (s : State) : State :=
  let suspect := s.modifySet i fun e => { e with state := .suspect }
  let queued := suspect.withIntegrity { suspect.integrity with queue := suspect.integrity.queue ++ [i] }
  recordTransition i .suspect false
    (if i < 144 then queued.modifyOut (i / 6) fun o => (o.addReason .fault).show else queued)

/-- A check of a set; only a failing check of a GOOD set does anything (R149, R150). -/
def examine (i : Nat) (s : State) : State :=
  if (s.coeffSet i).state = .good ∧ checkPasses (s.coeffSet i) = false then leaveGood i s else s

/-- The scanner at a frame boundary (R150). -/
def scan (s : State) : State :=
  let i := s.integrity.scanPos
  let checked := examine i s
  checked.withIntegrity { checked.integrity with scanPos := if 343 ≤ i then 0 else i + 1 }

/-- SCANNER_CHECK (R150). -/
def execScannerCheck (s : State) : Answer := event scan s

/-- An upset changes stored words or check bits and nothing else (R147). -/
def upsetSet (i : Nat) (flips : Words) (checkFlips : Nat) (s : State) : State :=
  s.modifySet i fun e =>
    { e with words := flipWords e.words flips, checkFlips := e.checkFlips ^^^ checkFlips }

/-- UPSET (R147). -/
def execUpset (index : Fin 344) (flips : Words) (checkFlips : Nat) (s : State) : Answer :=
  event (upsetSet index flips checkFlips) s

/-! ## The beginning of operations of the store controller (R154, R165) -/

/-- The stored copy that a restore read returns: none where FACTORY is not VALID or the copy fails its check (R154). -/
def storedCopy (s : State) (i : Nat) : Option Words :=
  let copy := s.store.factory.sets.getD i ⟨passThrough, false⟩
  if s.store.factoryState = .valid ∧ copy.checkOk then some copy.words else none

/-- Whether a restore read request waits: the queue holds an entry and no read is in progress (R154). -/
def readWaits (s : State) : Bool := s.integrity.queue ≠ [] && s.read.isNone

/-- The restore unit begins the read of the set at the head of the queue (R154). -/
def beginRead (s : State) : State :=
  match s.integrity.queue with
  | [] => s
  | i :: rest =>
    let taken := (s.withIntegrity { s.integrity with queue := rest }).modifySet i fun e => { e with state := .restoring }
    recordTransition i .restoring false
      ((taken.withRead (some ⟨i, false, storedCopy s i⟩)).withStore { s.store with running := some .readSet })

/-- The waiting host operation begins (R165). -/
def beginHost (s : State) : State :=
  match s.store.waiting with
  | none => s
  | some op => s.withStore { s.store with running := some (.host op), waiting := none }

/-- What begins at a free controller: a waiting restore read, and otherwise a waiting host operation (R165). -/
def grantNext (s : State) : State := if readWaits s then beginRead s else beginHost s

/-- READ_SET_BEGIN (R154): the store controller, free, grants the waiting read. -/
def execReadSetBegin (s : State) : Answer :=
  event (fun s => if s.store.running = none ∧ readWaits s then beginRead s else s) s

/-- HOST_OPERATION_BEGIN (R165): the store controller is free and no restore read waits. -/
def execHostOperationBegin (s : State) : Answer :=
  event (fun s => if s.store.running = none ∧ readWaits s = false then beginHost s else s) s

/-! ## The completion of a restore read (R155, R156, R159) -/

/-- A set's words put in place with fresh check bits (R147). -/
def CoeffSet.place (w : Words) (e : CoeffSet) : CoeffSet := { e with words := w, placed := w, checkFlips := 0 }

/-- A restore that has succeeded (R155). -/
def restoreSucceeds (i : Nat) (w : Words) (s : State) : State :=
  let good := s.modifySet i fun e => { e.place w with state := .good, unsaved := false }
  let counted := good.withIntegrity { good.integrity with restored := bump good.integrity.restored }
  recordTransition i .good (s.coeffSet i).unsaved (clearFault i counted)

/-- A second failure (R156). -/
def restoreFails (i : Nat) (s : State) : State :=
  let failed := s.modifySet i fun e => { e with state := .failed }
  recordTransition i .failed false
    (failed.withIntegrity { failed.integrity with secondFailures := bump failed.integrity.secondFailures })

/-- The outcome of a completed read: discarded (R159), a copy that failed its check (R156), or a copy written and
re-checked (R155, R156). Whether the re-check passes is the command's (log entry 10). -/
def readOutcome (r : ReadRec) (recheckPasses : Bool) (s : State) : State :=
  if r.discard then s
  else match r.copy with
    | none => restoreFails r.index s
    | some w =>
      if recheckPasses then restoreSucceeds r.index w s
      else restoreFails r.index (s.modifySet r.index (CoeffSet.place w))

/-- A restore read completes and the controller becomes free (R155, R165). -/
def completeRead (recheckPasses : Bool) (s : State) : State :=
  match s.read with
  | none => s
  | some r =>
    grantNext (readOutcome r recheckPasses ((s.withRead none).withStore { s.store with running := none }))

/-- READ_SET_COMPLETE (R155). -/
def execReadSetComplete (recheckPasses : Bool) (s : State) : Answer := event (completeRead recheckPasses) s

/-! ## Host writes and placement by LOAD (R157, R158, R173) -/

/-- The read in progress is discarded if it reads this set (R158). -/
def discardRead (i : Nat) (s : State) : State :=
  match s.read with
  | some r => if r.index = i then s.withRead (some { r with discard := true }) else s
  | none => s

/-- What a write does besides making the set GOOD, by the state the set held (R158). -/
def leaveForGood (was : SetState) (i : Nat) (s : State) : State :=
  match was with
  | .good => s
  | .suspect =>
    recordTransition i .good false
      (clearFault i (s.withIntegrity { s.integrity with queue := s.integrity.queue.erase i }))
  | .restoring => recordTransition i .good false (clearFault i (discardRead i s))
  | .failed => recordTransition i .good false (clearFault i s)

/-- One set is written by the host, or placed by LOAD; the host's write sets its unsaved mark and LOAD's clears it
(R157, R158, R173). -/
def writeSet (byHost : Bool) (i : Nat) (w : Words) (s : State) : State :=
  leaveForGood (s.coeffSet i).state i
    (s.modifySet i fun e => { e.place w with state := .good, unsaved := byHost, writtenSince := byHost })

/-- Sets written in index order from a first index. -/
def writeSets (byHost : Bool) : Nat → List Words → State → State
  | _, [], s => s
  | i, w :: rest, s => writeSets byHost (i + 1) rest (writeSet byHost i w s)

end Sys2Proof.Machine
end

