-- ==== Sys2Proof/Machine/Equaliser.lean ====
section
/-! DEFINITION. Equaliser sections and tone (chapter 5): EQ_BOUNDARY, the stability check, the section arithmetic. -/

namespace Sys2Proof.Machine

/-- The set that section k of channel c selects (R95, R97). -/
def selection (s : State) (c k : Nat) : Nat :=
  let g := (s.tables.routeOf c).toneGroup
  let t := s.planner.tone.getD c ⟨0, 0⟩
  if k < 6 then 6 * c + k
  else if k = 6 then 144 + 25 * g + (t.bass + 12).toNat
  else 244 + 25 * g + (t.treble + 12).toNat

/-- Steps 1 and 2 of R100 for one section: the selection, and the bypass mark from the set's state (R105); a changed
mark clears the history (R106, R107), and a swap between GOOD sets keeps it (R103). -/
def reselect (s : State) (c k : Nat) (e : EqSection) : EqSection :=
  let i := selection s c k
  let bypass : Bool := decide ((s.coeffSet i).state ≠ .good)
  if bypass = e.bypass then { e with selected := i, bypass := bypass }
  else { e with selected := i, bypass := bypass, x1 := 0, x2 := 0, y1 := 0, y2 := 0 }

/-- Step 3 of R100 for one section: a section not bypassed reads its set's words. -/
def readWords (s : State) (e : EqSection) : EqSection :=
  if e.bypass then e else { e with words := (s.coeffSet e.selected).words }

/-- The sets checked in use at a boundary, one for each section that is not bypassed, channel by channel and section by
section (R100, R149; the order: DESIGN CHOICE, log entry 12). -/
def checkedInUse (eq : List (List EqSection)) : List Nat :=
  (eq.flatten.filter fun e => !e.bypass).map (·.selected)

/-- The EQ engine at a frame boundary (R100): steps 1 and 2 for every section, then the reads and checks of step 3. -/
def eqBoundary (s : State) : State :=
  let eq := s.eq.zipIdx.map fun p => p.1.zipIdx.map fun q => readWords s (reselect s p.2 q.2 q.1)
  (checkedInUse eq).foldl (fun s i => examine i s) (s.withEq eq)

/-- EQ_BOUNDARY (R100). -/
def execEqBoundary (s : State) : Answer := event eqBoundary s

/-- The stability condition on a set that the host writes: |a2| < 2^22 and |a1| < 2^22 + a2 (R101). -/
def stable (w : Words) : Bool :=
  w.a2.toInt.natAbs < 4194304 && (w.a1.toInt.natAbs : Int) < 4194304 + w.a2.toInt

/-! ## Section arithmetic (R98, R99, R106) -/

/-- Limited to the 32-bit internal range (R98). -/
def limit32 (v : Int) : Int := clamp (-2147483648) 2147483647 v

/-- The rounded result of a section before the limit (R98). -/
def sectionSum (e : EqSection) (x0 : Int) : Int :=
  roundHalfUp 22 (e.words.b0.toInt * x0 + e.words.b1.toInt * e.x1 + e.words.b2.toInt * e.x2 -
    e.words.a1.toInt * e.y1 - e.words.a2.toInt * e.y2)

/-- One sample through one section: the section after it, its output, and whether it saturated (R98, R99, R106). -/
def runSection (e : EqSection) (x0 : Int) : EqSection × Int × Bool :=
  if e.bypass then (e, x0, false)
  else
    let v := sectionSum e x0
    let y0 := limit32 v
    ({ e with x1 := x0, x2 := e.x1, y1 := y0, y2 := e.y1 }, y0, y0 != v)

/-- One sample through the sections of a channel in order (R15, R94). -/
def runSections : List EqSection → Int → List EqSection × Int × Bool
  | [], x => ([], x, false)
  | e :: rest, x =>
    let a := runSection e x
    let b := runSections rest a.2.1
    (a.1 :: b.1, b.2.1, a.2.2 || b.2.2)

end Sys2Proof.Machine
end

