-- ==== Sys2Proof/Machine/OutputStage.lean ====
section
/-! DEFINITION. Output faders and delay changes (chapter 3, sections 3.4 to 3.6; R19 to R21): OUTPUT_STAGE_STEP and
APPLY_DELAY, and what accepted CH_DELAY and CH_ROUTE writes do here. -/

namespace Sys2Proof.Machine

/-! ## The boundary -/

/-- The closing step of a fader (R63). -/
def closeFader (fastSlew : Int) (o : OutChan) : OutChan :=
  if o.fader.state = .closing then
    let level := o.fader.level - fastSlew
    if level ≤ -240 then { o with fader := { o.fader with level := -480, state := .closed } }
    else { o with fader := { o.fader with level := level } }
  else o

/-- The clip mark of the frame just ended is counted and cleared (R20). -/
def countClip (o : OutChan) : OutChan :=
  if o.clipMark then { o with clipCount := bump o.clipCount, inClipSet := true, clipMark := false } else o

/-- The polarity of every channel is taken for the frame that follows (R5). -/
def takePolarity (s : State) : State :=
  s.withOutput (s.output.zipIdx.map fun p => { p.1 with polarity := (s.tables.routeOf p.2).polarity })

/-- The clip marks of all channels are counted; CLIP is posted if there was one (R20). -/
def countClips (s : State) : State :=
  if s.output.any (·.clipMark) then (s.mapOut countClip).post .clip else s

/-- The delay that goes in at this boundary: the pending one, behind a CLOSED fader (R67). -/
def delayDue (o : OutChan) : Option Nat := if o.fader.state = .closed then o.pendingDelay else none

/-- A channel's record once its pending delay is applied: the delay is no longer pending and DELAY is removed (R67). -/
def delayGone (o : OutChan) : OutChan :=
  if (delayDue o).isSome then (OutChan.removeReason .delay { o with pendingDelay := none }).show else o

/-- Every pending delay whose fader is CLOSED is applied and its line cleared (R17, R67). -/
def applyDelays (s : State) : State :=
  (s.withLines (s.lines.zipIdx.map fun p =>
    match delayDue (s.outChan p.2) with
    | some d => ⟨d, []⟩
    | none => p.1)).mapOut delayGone

/-- The output stage at a frame boundary: closing steps (R63), clip marks (R20), then the pending delays (R67); the fader
records it leaves are those that a QUERY shows (R59, log entry 14). -/
def outputBoundary (s : State) : State :=
  (applyDelays (countClips (takePolarity (s.mapOut (closeFader (s.tables.global .fastSlew)))))).mapOut OutChan.show

/-- OUTPUT_STAGE_STEP (R63): the output stage's whole boundary event. -/
def execOutputStageStep (s : State) : Answer := event outputBoundary s

/-- APPLY_DELAY (R67). -/
def execApplyDelay (s : State) : Answer := event applyDelays s

/-! ## Accepted writes -/

/-- An accepted CH_DELAY write for a channel (R65, R66). -/
def OutChan.writeDelay (applied v : Nat) (o : OutChan) : OutChan :=
  if o.pendingDelay = none ∧ v = applied then o
  else
    let started := { o with pendingDelay := some v }
    match o.fader.state with
    | .closed => started
    | .closing => if o.fader.reasons.disabled then started else started.addReason .delay
    | .opened | .opening => started.addReason .delay

/-- An accepted CH_DELAY write of k entries from a first one, as the table now stands (R65). -/
def delayActs (first k : Nat) (s : State) : State :=
  s.withOutput (s.output.zipIdx.map fun p =>
    if first ≤ p.2 ∧ p.2 < first + k then
      p.1.writeDelay (s.line p.2).applied (s.tables.delay.getD p.2 0).toNat
    else p.1)

/-- A changed enabled field adds or removes DISABLED (R10, R70). -/
def OutChan.writeEnabled (was now : Bool) (o : OutChan) : OutChan :=
  if was = now then o else if now then o.removeReason .disabled else o.addReason .disabled

/-- The output stage after CH_ROUTE has changed from an earlier table (R70). -/
def routeActs (before : Tables) (s : State) : State :=
  s.withOutput (s.output.zipIdx.map fun p =>
    p.1.writeEnabled (before.routeOf p.2).enabled (s.tables.routeOf p.2).enabled)

end Sys2Proof.Machine
end

