-- ==== Sys2Proof/Machine/TableOps.lean ====
section
/-! DEFINITION. Tables over the link and the dealer patch list (R186 to R189, R169 to R171): TABLE_WRITE, TABLE_READ,
PATCH_PUT, PATCH_DROP. -/

namespace Sys2Proof.Machine

/-- The tuning tables, in the order of their ids 1 to 16 (R186). -/
inductive TableId where
  | volume | annVolume | balance | fade | speedCurve | classes | route | trim | ceiling | annTrim | sdvWeight | delay
  | globals | fixedSets | bassSets | trebleSets
  deriving DecidableEq, Repr

/-- The tables in id order (R186). -/
def TableId.all : List TableId :=
  [.volume, .annVolume, .balance, .fade, .speedCurve, .classes, .route, .trim, .ceiling, .annTrim, .sdvWeight, .delay,
   .globals, .fixedSets, .bassSets, .trebleSets]

/-- The table of an id (R186). -/
def TableId.ofCode (n : Nat) : Option TableId := if n = 0 then none else TableId.all[n - 1]?

/-- How many entries a table has (R186). -/
def TableId.entries : TableId → Nat
  | .volume => 64 | .annVolume => 32 | .balance => 21 | .fade => 21 | .speedCurve => 8 | .classes => 4
  | .globals => 17 | .fixedSets => 144 | .bassSets => 100 | .trebleSets => 100
  | .route | .trim | .ceiling | .annTrim | .sdvWeight | .delay => 24

/-- How many bytes an entry has on the link (R186). -/
def TableId.entryBytes : TableId → Nat
  | .speedCurve => 3 | .classes => 5 | .route => 4 | .sdvWeight => 1 | .fixedSets | .bassSets | .trebleSets => 15
  | .volume | .annVolume | .balance | .fade | .trim | .ceiling | .annTrim | .delay | .globals => 2

/-- The set index of entry 0 of a coefficient table (R95). -/
def TableId.firstSet : TableId → Option Nat
  | .fixedSets => some 0 | .bassSets => some 144 | .trebleSets => some 244 | _ => none

/-- A table of numbers. -/
def Tables.nums (t : Tables) : TableId → List Int
  | .volume => t.volume | .annVolume => t.annVolume | .balance => t.balance | .fade => t.fade | .trim => t.trim
  | .ceiling => t.ceiling | .annTrim => t.annTrim | .sdvWeight => t.sdvWeight | .delay => t.delay
  | .globals => t.globals
  | .speedCurve | .classes | .route | .fixedSets | .bassSets | .trebleSets => []

/-- A table of numbers replaced. -/
def Tables.putNums (t : Tables) (id : TableId) (l : List Int) : Tables :=
  match id with
  | .volume => { t with volume := l }
  | .annVolume => { t with annVolume := l }
  | .balance => { t with balance := l }
  | .fade => { t with fade := l }
  | .trim => { t with trim := l }
  | .ceiling => { t with ceiling := l }
  | .annTrim => { t with annTrim := l }
  | .sdvWeight => { t with sdvWeight := l }
  | .delay => { t with delay := l }
  | .globals => { t with globals := l }
  | .speedCurve | .classes | .route | .fixedSets | .bassSets | .trebleSets => t

/-! ## The owners' checks -/

/-- Every number of a list lies in a range. -/
def allIn (lo hi : Int) (l : List Int) : Bool := l.all fun v => lo ≤ v && v ≤ hi

/-- Each number is at least as large as the one before it (R32, R33). -/
def rising : List Int → Bool
  | a :: b :: rest => a ≤ b && rising (b :: rest)
  | _ => true

/-- The constraints of a level table: range, entry 0, order (R32, R33, R34). -/
def levelOk (lo hi first : Int) (l : List Int) : Bool := allIn lo hi l && l.getD 0 0 = first && rising l

/-- The ranges of GLOBALS, in index order (R35, R51, R72, R134, R173). -/
def globalRanges : List (Int × Int) :=
  [(-480, 0), (0, 15), (1, 64), (1, 64), (16, 64), (0, 1), (1, 50), (0, 1), (1000, 30000), (1, 15), (0, 48), (0, 255),
   (0, 255), (0, 255), (0, 255), (0, 1), (0, 63)]

/-- The GLOBALS validation (R188): every entry in its range, SDV_BASS_DIV not 1 to 3 (R72), the thresholds in order
(R134). -/
def globalsOk (l : List Int) : Bool :=
  let g (x : Global) : Int := l.getD x.index 0
  ((l.zip globalRanges).all fun p => p.2.1 ≤ p.1 && p.1 ≤ p.2.2) &&
    (g .sdvBassDiv = 0 || 4 ≤ g .sdvBassDiv) &&
    g .lowEnter < g .lowLeave && g .lowLeave < g .highLeave && g .highLeave < g .highEnter

/-- The owner's check on a whole table of numbers (R8, R9, R34, R188). -/
def numsOk (id : TableId) (l : List Int) : Bool :=
  match id with
  | .volume | .annVolume => levelOk (-480) 0 (-480) l
  | .balance | .fade => levelOk 0 480 0 l
  | .trim | .annTrim => allIn (-96) 24 l
  | .ceiling => allIn (-96) 48 l
  | .sdvWeight => allIn 0 16 l
  | .delay => allIn 0 960 l
  | .globals => globalsOk l
  | .speedCurve | .classes | .route | .fixedSets | .bassSets | .trebleSets => true

/-- Breakpoints with strictly rising speeds and boosts that do not fall (R88). -/
def pointsRise : List (Nat × Nat) → Bool
  | a :: b :: rest => a.1 < b.1 && a.2 ≤ b.2 && pointsRise (b :: rest)
  | _ => true

/-- The owner's check on a whole SPEED_CURVE (R88); the ranges of the fields are checked as they are read. -/
def curveOk (l : List CurvePoint) : Bool :=
  let used := inUsePoints l
  2 ≤ used.length && (l.dropWhile (·.inUse)).all (fun p => !p.inUse) && (l.getD 0 ⟨1, 0, false⟩).speed = 0 &&
    pointsRise used

/-- The ranges of the fields of a SPEED_CURVE entry (R87, R88). -/
def CurvePoint.inRange (p : CurvePoint) : Bool := p.speed ≤ 255 && p.boost ≤ 48

/-- The ranges of the fields of a CLASSES entry (R110, R111). -/
def ClassEntry.inRange (e : ClassEntry) : Bool := e.level ≤ 3 && e.duck ≤ 480 && e.maxDuration ≤ 255

/-- The range of tone_group, the one field of a CH_ROUTE entry that is a number (R7, R9). -/
def Route.inRange (r : Route) : Bool := r.toneGroup ≤ 3

/-! ## Accepted writes and what their owners do -/

/-- A table with entries replaced from a first index. -/
def splice {α : Type} (old : List α) (first : Nat) (new : List α) : List α :=
  old.take first ++ new ++ old.drop (first + new.length)

/-- An accepted write of k numbers from a first index, the table now being l: the entries replaced at once, then the
owner's action (R187): GLOBALS resets the divider counter if it carries RAMP_DIVIDER (R52) and acts on the tracker
(R83, R84, R91); CH_DELAY starts delay changes (R65); every other table of numbers is used at the next boundary. -/
def acceptNums (id : TableId) (first k : Nat) (l : List Int) (s : State) : State :=
  let written := s.withTables (s.tables.putNums id l)
  match id with
  | .globals =>
    let divided := if first ≤ 1 ∧ 1 < first + k then written.withRamp { s.ramp with divider := 0 } else written
    trackerActs s.tables divided
  | .delay => delayActs first k written
  | _ => written

/-- An accepted SPEED_CURVE write: the tracker recomputes (R88). -/
def acceptCurve (l : List CurvePoint) (s : State) : State := recompute (s.withTables { s.tables with speedCurve := l })

/-- An accepted CLASSES write: arbitration runs (R111). -/
def acceptClasses (l : List ClassEntry) (s : State) : State := arbitrate (s.withTables { s.tables with classes := l })

/-- An accepted CH_ROUTE write (R10, R70). -/
def acceptRoute (l : List Route) (s : State) : State :=
  routeActs s.tables (s.withTables { s.tables with route := l })

/-- An accepted write of the whole, or a status that refuses it whole. -/
def accepted (ok : Bool) (x : Status) (s t : State) : Handled := if ok then Handled.done t else Handled.refuse s x

/-- The number that the bytes of an entry carry: one byte unsigned, two bytes signed (R186). -/
def numOfBytes : List Byte → Int
  | [b] => u8 b
  | [hi, lo] => s16 hi lo
  | _ => 0

/-- Step 4 of R187 and what follows it, for a write of entries inside the table. -/
def writeEntries (id : TableId) (first : Nat) (entries : List (List Byte)) (s : State) : Handled :=
  match id with
  | .speedCurve =>
    match entries.mapM CurvePoint.ofBytes with
    | none => Handled.refuse s .tableInvalid
    | some new =>
      let l := splice s.tables.speedCurve first new
      accepted (curveOk l) .tableInvalid s (acceptCurve l s)
  | .classes =>
    match entries.mapM ClassEntry.ofBytes with
    | none => Handled.refuse s .tableInvalid
    | some new => Handled.done (acceptClasses (splice s.tables.classes first new) s)
  | .route =>
    match entries.mapM Route.ofBytes with
    | none => Handled.refuse s .tableInvalid
    | some new => Handled.done (acceptRoute (splice s.tables.route first new) s)
  | .fixedSets | .bassSets | .trebleSets =>
    let new := entries.map wordsOfBytes
    accepted (new.all stable) .unstable s (writeSets true (id.firstSet.getD 0 + first) new s)
  | .volume | .annVolume | .balance | .fade | .trim | .ceiling | .annTrim | .sdvWeight | .delay | .globals =>
    let l := splice (s.tables.nums id) first (entries.map numOfBytes)
    accepted (numsOk id l) .tableInvalid s (acceptNums id first entries.length l s)

/-- TABLE_WRITE after the common checks, in the order of R187. -/
def handleTableWrite (payload : List Byte) (s : State) : Handled :=
  match payload with
  | code :: hi :: lo :: rest =>
    match TableId.ofCode code.toNat with
    | none => Handled.refuse s .badId
    | some id =>
      if rest = [] ∨ rest.length % id.entryBytes ≠ 0 then Handled.refuse s .badLength
      else if id.entries < u16 hi lo + rest.length / id.entryBytes then Handled.refuse s .badRange
      else writeEntries id (u16 hi lo) (chunks id.entryBytes rest) s
  | _ => Handled.refuse s .badLength

/-- TABLE_WRITE (R187). -/
def execTableWrite (tag : Byte) (payload : List Byte) (s : State) : Answer :=
  request 0x07 tag (4 ≤ payload.length && payload.length ≤ 248) true (handleTableWrite payload) s

/-! ## TABLE_READ (R189) -/

/-- The bytes of one entry of a table, as the working values stand (R186, R189). -/
def entryOnLink (s : State) (id : TableId) (i : Nat) : List Byte :=
  match id with
  | .speedCurve => (s.tables.speedCurve.getD i ⟨0, 0, false⟩).bytes
  | .classes => (s.tables.classes.getD i ⟨0, 0, 0, false⟩).bytes
  | .route => (s.tables.routeOf i).bytes
  | .sdvWeight => [byteOf (s.tables.sdvWeight.getD i 0)]
  | .fixedSets | .bassSets | .trebleSets => wordsBytes (s.coeffSet (id.firstSet.getD 0 + i)).words
  | .volume | .annVolume | .balance | .fade | .trim | .ceiling | .annTrim | .delay | .globals =>
    bytes2 ((s.tables.nums id).getD i 0)

/-- TABLE_READ after the common checks, in the order of R189. -/
def handleTableRead (payload : List Byte) (s : State) : Handled :=
  match payload with
  | [code, hi, lo, count] =>
    match TableId.ofCode code.toNat with
    | none => Handled.refuse s .badId
    | some id =>
      if count.toNat = 0 ∨ 247 < count.toNat * id.entryBytes ∨ id.entries < u16 hi lo + count.toNat then
        Handled.refuse s .badRange
      else if s.store.closed ∧ id.firstSet.isSome then Handled.refuse s .isProtected
      else ⟨s, .ok, (List.range count.toNat).flatMap fun i => entryOnLink s id (u16 hi lo + i)⟩
  | _ => Handled.refuse s .badLength

/-- TABLE_READ (R189). -/
def execTableRead (tag : Byte) (payload : List Byte) (s : State) : Answer :=
  request 0x08 tag (payload.length = 4) true (handleTableRead payload) s

/-! ## The working patch list (R169 to R171) -/

/-- The table that a patch names. -/
def PatchTable.table : PatchTable → TableId
  | .volume => .volume | .annVolume => .annVolume | .balance => .balance | .fade => .fade | .trim => .trim
  | .ceiling => .ceiling | .annTrim => .annTrim | .sdvWeight => .sdvWeight

/-- The patchable table of an id: 1 to 4 and 8 to 11 (R186). -/
def PatchTable.ofCode : Nat → Option PatchTable
  | 1 => some .volume | 2 => some .annVolume | 3 => some .balance | 4 => some .fade
  | 8 => some .trim | 9 => some .ceiling | 10 => some .annTrim | 11 => some .sdvWeight
  | _ => none

/-- Whether a record has a target (R169). -/
def PatchRec.targets (t : PatchTable) (i : Nat) (r : PatchRec) : Bool := r.table = t && r.index = i

/-- The working table with one entry patched. -/
def patchedTable (t : PatchTable) (i : Nat) (v : Int) (s : State) : List Int :=
  splice (s.tables.nums t.table) i [v]

/-- Whether a patch passes the checks of its entry and its value (R170, R173). -/
def patchOk (t : PatchTable) (i : Nat) (v : Int) (s : State) : Bool :=
  i < t.table.entries && numsOk t.table (patchedTable t i v s)

/-- A patch written into the working table, with the effects of a write of that entry (R170). -/
def writePatch (t : PatchTable) (i : Nat) (v : Int) (s : State) : State :=
  acceptNums t.table i 1 (patchedTable t i v s) s

/-- A record created at the end of the list, or its value replaced in place (R170). -/
def putRecord (t : PatchTable) (i : Nat) (v : Int) (l : List PatchRec) : List PatchRec :=
  if l.any (PatchRec.targets t i) then l.map fun r => if r.targets t i then { r with value := v } else r
  else l ++ [⟨t, i, v⟩]

/-- PATCH_PUT after the common checks, in the order of R170. -/
def handlePatchPut (payload : List Byte) (s : State) : Handled :=
  match payload with
  | [code, hi, lo, vhi, vlo] =>
    match PatchTable.ofCode code.toNat with
    | none => Handled.refuse s .badId
    | some t =>
      let i := u16 hi lo
      let v := s16 vhi vlo
      if t.table.entries ≤ i then Handled.refuse s .badRange
      else if !s.patches.any (PatchRec.targets t i) && 16 ≤ s.patches.length then Handled.refuse s .full
      else if !patchOk t i v s then Handled.refuse s .tableInvalid
      else Handled.done ((writePatch t i v s).withPatches (putRecord t i v s.patches))
  | _ => Handled.refuse s .badLength

/-- PATCH_PUT (R170). -/
def execPatchPut (tag : Byte) (payload : List Byte) (s : State) : Answer :=
  request 0x0B tag (payload.length = 5) true (handlePatchPut payload) s

/-- PATCH_DROP after the common checks (R171). -/
def handlePatchDrop (payload : List Byte) (s : State) : Handled :=
  match payload with
  | [code, hi, lo] =>
    match PatchTable.ofCode code.toNat with
    | none => Handled.refuse s .badId
    | some t =>
      if t.table.entries ≤ u16 hi lo then Handled.refuse s .badRange
      else Handled.done (s.withPatches (s.patches.filter fun r => !r.targets t (u16 hi lo)))
  | _ => Handled.refuse s .badLength

/-- PATCH_DROP (R171). -/
def execPatchDrop (tag : Byte) (payload : List Byte) (s : State) : Answer :=
  request 0x0C tag (payload.length = 3) true (handlePatchDrop payload) s

end Sys2Proof.Machine
end

