-- ==== Sys2Proof/Machine/TuningStore.lean ====
section
/-! DEFINITION. Host operations on the tuning store (R162 to R168): SAVE, CLOSE_FACTORY, SAVE_COMPLETE, CLOSE_COMPLETE,
and STORED_COPY_DAMAGED. HOST_OPERATION_BEGIN stands with the other beginnings in Machine/CoeffIntegrity.lean. -/

namespace Sys2Proof.Machine

/-! ## Acceptance (R164) -/

/-- Whether a host operation is accepted and not completed (R164). -/
def hostBusy (st : Store) : Bool :=
  st.waiting.isSome ||
    match st.running with
    | some (.host _) => true
    | _ => false

/-- What SAVE FACTORY captures: every working table, and every set's words with check bits of their own (R147, R164). -/
def captureFactory (s : State) : FactoryImage := ⟨s.tables, s.integrity.sets.map fun e => ⟨e.words, true⟩⟩

/-- The accepted operation begins if the controller is free and no restore read waits; otherwise it waits (R164). -/
def acceptHost (op : HostOp) (s : State) : State :=
  if s.store.running = none ∧ readWaits s = false then
    s.withStore { s.store with running := some (.host op) }
  else s.withStore { s.store with waiting := some op }

/-- A SAVE FACTORY accepted: no set has been written since (R157). -/
def markAccepted (s : State) : State :=
  s.withIntegrity { s.integrity with sets := s.integrity.sets.map fun e => { e with writtenSince := false } }

/-- SAVE after the common checks, in the order of R164. -/
def handleSave (payload : List Byte) (s : State) : Handled :=
  match payload with
  | [code] =>
    if 2 < code.toNat then Handled.refuse s .badId
    else if hostBusy s.store then Handled.refuse s .busy
    else if code.toNat = 0 then
      if s.store.closed then Handled.refuse s .isProtected
      else Handled.done (acceptHost (.saveFactory (captureFactory s)) (markAccepted s))
    else if code.toNat = 1 then Handled.done (acceptHost (.saveDealer s.patches) s)
    else Handled.done (acceptHost (.saveStart s.planner.live) s)
  | _ => Handled.refuse s .badLength

/-- SAVE (R164). -/
def execSave (tag : Byte) (payload : List Byte) (s : State) : Answer :=
  request 0x09 tag (payload.length = 1) true (handleSave payload) s

/-- CLOSE_FACTORY after the common checks, in the order of R164. -/
def handleClose (s : State) : Handled :=
  if hostBusy s.store then Handled.refuse s .busy
  else if s.store.closed then Handled.refuse s .isProtected
  else if s.store.factoryState ≠ .valid then Handled.refuse s .noTuning
  else Handled.done (acceptHost .close s)

/-- CLOSE_FACTORY (R164). -/
def execCloseFactory (tag : Byte) (payload : List Byte) (s : State) : Answer :=
  request 0x0A tag (payload.length = 0) true handleClose s

/-! ## Completion (R166, R167) -/

/-- The state of a region after its save (R166). -/
def savedState (verified : Bool) : RegionState := if verified then .valid else .corrupt

/-- The store once a save has written its region. -/
def Store.saved (st : Store) (op : HostOp) (verified : Bool) : Store :=
  match op with
  | .saveFactory image => { st with factory := image, factoryState := savedState verified }
  | .saveDealer l => { st with dealer := l, dealerState := savedState verified }
  | .saveStart sc => { st with start := sc, startState := savedState verified }
  | .close => { st with closed := st.closed || verified }

/-- The host operation ceases to be outstanding and its result is posted (R166, R167). -/
def hostDone (op : HostOp) (verified : Bool) (s : State) : State :=
  (s.withStore { s.store.saved op verified with
    running := none, lastDone := some (op.code, verified) }).post .storeDone

/-- The unsaved marks after a SAVE FACTORY completed with OK: cleared but for sets written after its acceptance
(R157). -/
def clearUnsaved (s : State) : State :=
  s.withIntegrity { s.integrity with
    sets := s.integrity.sets.map fun e => { e with unsaved := e.unsaved && e.writtenSince } }

/-- The completion of a save, after which the controller is free (R165, R166). STORE_DONE is posted before the COEFF_STATE of
a read that begins in the same event: DESIGN CHOICE, log entry 32. -/
def completeSave (verified : Bool) (s : State) : State :=
  match s.store.running with
  | some (.host (.saveFactory image)) =>
    let done := hostDone (.saveFactory image) verified s
    grantNext (if verified then clearUnsaved done else done)
  | some (.host (.saveDealer l)) => grantNext (hostDone (.saveDealer l) verified s)
  | some (.host (.saveStart sc)) => grantNext (hostDone (.saveStart sc) verified s)
  | _ => s

/-- SAVE_COMPLETE (R166). Whether the region verifies is the command's (log entry 10). -/
def execSaveComplete (verified : Bool) (s : State) : Answer := event (completeSave verified) s

/-- The completion of a CLOSE, after which the controller is free (R165, R167). STORE_DONE is posted first: DESIGN CHOICE, log
entry 32. -/
def completeClose (verified : Bool) (s : State) : State :=
  match s.store.running with
  | some (.host .close) => grantNext (hostDone .close verified s)
  | _ => s

/-- CLOSE_COMPLETE (R167). Whether the flag verifies is the command's (log entry 10). -/
def execCloseComplete (verified : Bool) (s : State) : Answer := event (completeClose verified) s

/-! ## Damage to a stored copy (R147) -/

/-- The stored copy of a set is damaged: its words change and its check bits no longer agree, so that a later restore
read of it fails (R147, R154, log entry 9). -/
def damageStored (i : Nat) (flips : Words) (s : State) : State :=
  s.withStore { s.store with factory := { s.store.factory with
    sets := s.store.factory.sets.modify i fun e => ⟨flipWords e.words flips, false⟩ } }

/-- STORED_COPY_DAMAGED (R147). A BLANK region holds no copy. The store is damaged in reset as at any time. -/
def execStoredCopyDamaged (index : Fin 344) (flips : Words) (s : State) : Answer :=
  .next (if s.store.factoryState = .blank then s else damageStored index flips s)

end Sys2Proof.Machine
end

