-- ==== Sys2Proof/Machine/LinkControl.lean ====
section
/-! DEFINITION. The control link (chapter 10): QUERY, COUNTERS, CLEAR_HISTORY, RESTART, BAD_KIND, CRC_ERROR,
FRAME_LENGTH_INVALID, LINK_GAP, FRAME_SENT. -/

namespace Sys2Proof.Machine

/-! ## QUERY (R183) -/

/-- Item 5: a channel (R49, R183). Its fader is shown as the last frame boundary left it (R59, log entry 14). -/
def channelItem (s : State) (c : Nat) : List Byte :=
  let a := s.ramp.applied.getD c PathGains.mute
  let t := s.planner.targets.getD c PathGains.mute
  let o := s.outChan c
  let f := o.shown
  let tone := s.planner.tone.getD c ⟨0, 0⟩
  bytes2 a.prog ++ bytes2 a.slot1 ++ bytes2 a.slot2 ++ bytes2 t.prog ++ bytes2 t.slot1 ++ bytes2 t.slot2 ++
    [f.state.code] ++ bytes2 f.level ++ [f.reasons.byte, byteOf tone.bass, byteOf tone.treble] ++
    bytes2 (s.line c).applied ++ [flagByte o.pendingDelay.isSome] ++ bytes2 (o.pendingDelay.getD 0)

/-- The code of the outstanding host operation, 4 for none (R183). -/
def outstandingCode (st : Store) : Nat :=
  match st.waiting, st.running with
  | some op, _ => op.code
  | none, some (.host op) => op.code
  | _, _ => 4

/-- The content of an item, or the status that refuses it (R183). -/
def queryItem (s : State) (item index : Nat) : Except Status (List Byte) :=
  match item with
  | 1 => .ok (s.planner.live.map byteOf ++ [byteOf (pendingCount s.planner)])
  | 2 => .ok [s.tracker.state.code, byteOf s.tracker.sf, byteOf s.tracker.lastSample]
  | 3 => .ok [s.supply.state.code, byteOf s.supply.reading]
  | 4 => .ok (annContent s ++ AnnClass.all.flatMap fun k => bytes4 (s.arbiter.classes.get k).timer)
  | 5 => if index < 24 then .ok (channelItem s index) else .error .badRange
  | 6 => if index < 344 then .ok [(s.coeffSet index).state.code] else .error .badRange
  | 7 => .ok [s.store.factoryState.code, s.store.dealerState.code, s.store.startState.code, flagByte s.store.closed,
      byteOf (outstandingCode s.store)]
  | 8 => .ok [s.record.cause.code, flagByte s.record.cutFlag, byteOf s.record.count]
  | 9 => .ok [s.startup.state.code]
  | _ => .error .badId

/-- QUERY after the common checks (R183). -/
def handleQuery (payload : List Byte) (s : State) : Handled :=
  match payload with
  | [item, hi, lo] =>
    match queryItem s item.toNat (u16 hi lo) with
    | .ok content => ⟨s, .ok, content⟩
    | .error x => Handled.refuse s x
  | _ => Handled.refuse s .badLength

/-- QUERY (R183). It is the one kind that is taken while LOADING (R180). -/
def execQuery (tag : Byte) (payload : List Byte) (s : State) : Answer :=
  request 0x03 tag (payload.length = 3) false (handleQuery payload) s

/-! ## COUNTERS, CLEAR_HISTORY, RESTART -/

/-- The 30 counters in the order of R184. -/
def counterValues (s : State) : List Nat :=
  [s.link.crcErrors, s.link.gaps, s.link.discards, s.link.invalidReports, s.integrity.restored,
   s.integrity.secondFailures] ++ (List.range 24).map fun c => (s.outChan c).clipCount

/-- All 30 counters at 0 (R184). -/
def clearCounters (s : State) : State :=
  ((s.withLink { s.link with crcErrors := 0, gaps := 0, discards := 0, invalidReports := 0 }).withIntegrity
    { s.integrity with restored := 0, secondFailures := 0 }).mapOut fun o => { o with clipCount := 0 }

/-- COUNTERS after the common checks (R184). -/
def handleCounters (payload : List Byte) (s : State) : Handled :=
  match payload with
  | [clear] =>
    ⟨if lowBit clear then clearCounters s else s, .ok, (counterValues s).flatMap fun n => bytes2 n⟩
  | _ => Handled.refuse s .badLength

/-- COUNTERS (R184). -/
def execCounters (tag : Byte) (payload : List Byte) (s : State) : Answer :=
  request 0x0D tag (payload.length = 1) true (handleCounters payload) s

/-- CLEAR_HISTORY after the common checks (R185). -/
def handleClearHistory (s : State) : Handled :=
  Handled.done (s.withRecord { s.record with cutFlag := false, count := 0 })

/-- CLEAR_HISTORY (R185). -/
def execClearHistory (tag : Byte) (payload : List Byte) (s : State) : Answer :=
  request 0x0E tag (payload.length = 0) true handleClearHistory s

/-- RESTART after the common checks: a reset becomes pending (R185). -/
def handleRestart (s : State) : Handled := Handled.done (s.withLink { s.link with restartPending := true })

/-- RESTART (R185). -/
def execRestart (tag : Byte) (payload : List Byte) (s : State) : Answer :=
  request 0x0F tag (payload.length = 0) true handleRestart s

/-! ## Frames that are no request -/

/-- BAD_KIND (R180): the first common check. A kind of the table of R180 is no such frame. -/
def execBadKind (kind tag : Byte) (_payload : List Byte) (s : State) : Answer :=
  event (fun s =>
    if 1 ≤ kind.toNat ∧ kind.toNat ≤ 15 then s
    else dispatch kind tag (fun s => Handled.refuse s .badKind) (frameTaken s)) s

/-- CRC_ERROR (R177, R178): a frame whose CRC fails is discarded silently and counted. -/
def execCrcError (body : List Byte) (crc : BitVec 16) (s : State) : Answer :=
  event (fun s => if crc = crc16 body then s else (frameTaken s).countCrcError) s

/-- FRAME_LENGTH_INVALID (R177): a LENGTH below 2 or above 250 ends the frame attempt and is counted. -/
def execFrameLengthInvalid (length : Byte) (s : State) : Answer :=
  event (fun s => if length.toNat < 2 ∨ 250 < length.toNat then (frameTaken s).countCrcError else s) s

/-- LINK_GAP (R177): the partial frame is discarded and counted; the byte that ends the gap is treated as a byte outside
a frame, so it starts a new frame if it is SYNC. -/
def execLinkGap (next : Byte) (s : State) : Answer :=
  event (fun s => s.countGap.withLink { s.countGap.link with
    assembler := if next = 0xA5 then .started else .hunting }) s

/-! ## FRAME_SENT (R181, R185) -/

/-- The reply to a handled RESTART: kind 0x8F with status OK (R179, R180, R185). -/
def isRestartReply (f : Frame) : Bool := f.kind = 0x8F && f.payload.head? = some Status.ok.code

/-- The transmitter has sent the last byte of its frame: the reset of a handled RESTART is taken if this was its reply
(R185), and otherwise the next frame begins (R181). -/
def frameSent (s : State) : State :=
  match s.link.tx with
  | none => s
  | some f =>
    if s.link.restartPending ∧ isRestartReply f then enterReset .restartRequest s
    else beginNext (s.withLink { s.link with tx := none })

/-- FRAME_SENT (R181). -/
def execFrameSent (s : State) : Answer := .next (if s.held then s else frameSent s)

end Sys2Proof.Machine
end

