-- ==== Sys2Proof/Machine/Ramp.lean ====
section
/-! DEFINITION. Ramps (chapter 3, sections 3.1 to 3.3): RAMP_BOUNDARY and RAMP_STEP. -/

namespace Sys2Proof.Machine

/-- One ramp step of a path: applied gain, target, slew (R53, R54, R55). -/
def rampPath (a t slew : Int) : Int :=
  if a < t then
    if a = -480 then min t (-240) else min t (a + slew)
  else if t < a then
    if t = -480 then (if a - slew ≤ -240 then -480 else a - slew) else max t (a - slew)
  else a

/-- The three paths of a channel after the ceiling clamp (R56). -/
def clampPaths (ceiling : Int) (g : PathGains) : PathGains :=
  ⟨min ceiling g.prog, min ceiling g.slot1, min ceiling g.slot2⟩

/-- The three paths of a channel after a ramp step: PROG_SLEW and ANN_SLEW (R51, R53). -/
def rampPaths (progSlew annSlew : Int) (a t : PathGains) : PathGains :=
  ⟨rampPath a.prog t.prog progSlew, rampPath a.slot1 t.slot1 annSlew, rampPath a.slot2 t.slot2 annSlew⟩

/-- An opening step of a fader, an event of a boundary, so that a QUERY shows it (R59, R64). -/
def openFader (progSlew : Int) (o : OutChan) : OutChan :=
  if o.fader.state = .opening then
    let level := if o.fader.level = -480 then -240 else min 0 (o.fader.level + progSlew)
    OutChan.show { o with fader := { o.fader with level := level, state := if level = 0 then .opened else .opening } }
  else o

/-- Whether this boundary is a ramp step (R52). -/
def stepDue (s : State) : Bool := (s.ramp.divider : Int) = s.tables.global .rampDivider

/-- The ceiling clamp on every applied gain, with the ceilings of this boundary's targets (R56). -/
def clampApplied (s : State) : State :=
  s.withRamp { s.ramp with
    applied := (List.range 24).map fun c =>
      clampPaths (s.planner.readCeiling.getD c 0) (s.ramp.applied.getD c PathGains.mute) }

/-- A ramp step of all 72 applied gains and of every opening fader (R52, R64). -/
def moveAll (s : State) : State :=
  (s.withRamp { s.ramp with
    applied := (List.range 24).map fun c =>
      rampPaths (s.tables.global .progSlew) (s.tables.global .annSlew) (s.ramp.applied.getD c PathGains.mute)
        (s.planner.targets.getD c PathGains.mute) }).mapOut (openFader (s.tables.global .progSlew))

/-- The divider counter at a boundary, and the step where it is due (R52, R53). -/
def advanceDivider (s : State) : State :=
  if stepDue s then moveAll (s.withRamp { s.ramp with divider := 0 })
  else s.withRamp { s.ramp with divider := s.ramp.divider + 1 }

/-- The applied gain of a slot path. -/
def PathGains.slot (g : PathGains) : Slot → Int
  | .slot1 => g.slot1
  | .slot2 => g.slot2

/-- Whether a slot's path gains stand at −480 on all 24 channels (R57). -/
def drained (s : State) (k : Slot) : Bool :=
  (List.range 24).all fun c => (s.ramp.applied.getD c PathGains.mute).slot k = -480

/-- The check of one slot: a DRAINING slot that has drained is handed to the arbiter, once for each drain (R57, R58). -/
def checkDrain (k : Slot) (s : State) : State :=
  if s.arbiter.slots.get k = .draining ∧ drained s k then
    s.withRamp { s.ramp with handed := s.ramp.handed.put k true }
  else s

/-- The ramp unit at a frame boundary (R53): clamp, divider counter and ramp step, drain checks. -/
def rampUnitBoundary (s : State) : State :=
  checkDrain .slot2 (checkDrain .slot1 (advanceDivider (clampApplied s)))

/-- RAMP_BOUNDARY (R53): the ramp unit's whole boundary event. -/
def execRampBoundary (s : State) : Answer := event rampUnitBoundary s

/-- RAMP_STEP (R52): the same event at a boundary whose ramp step is due; no other boundary is one. -/
def execRampStep (s : State) : Answer := event (fun s => if stepDue s then rampUnitBoundary s else s) s

end Sys2Proof.Machine
end

