-- ==== Sys2Proof/Machine/GainWord.lean ====
section
/-! DEFINITION. The fixed conversion from qdB to gain word (R44), as the table the part holds. -/

namespace Sys2Proof.Machine

/-- Gain words of -479 to -432 qdB (R44). -/
def gainWords1 : List Nat :=
  [1, 1, 1, 1, 1, 1, 1, 1, 1, 1, 1, 1, 2, 2, 2, 2, 2, 2, 2, 2, 2, 2, 2, 2, 2, 2, 2, 2, 2, 2, 3, 3, 3, 3, 3,
   3, 3, 3, 3, 3, 3, 4, 4, 4, 4, 4, 4, 4]

/-- Gain words of -431 to -384 qdB (R44). -/
def gainWords2 : List Nat :=
  [4, 4, 5, 5, 5, 5, 5, 5, 5, 6, 6, 6, 6, 6, 6, 7, 7, 7, 7, 7, 8, 8, 8, 8, 9, 9, 9, 9, 10, 10, 10, 10, 11,
   11, 11, 12, 12, 12, 13, 13, 14, 14, 14, 15, 15, 16, 16, 17]

/-- Gain words of -383 to -336 qdB (R44). -/
def gainWords3 : List Nat :=
  [17, 18, 18, 19, 19, 20, 20, 21, 22, 22, 23, 23, 24, 25, 26, 26, 27, 28, 29, 30, 30, 31, 32, 33, 34, 35,
   36, 37, 38, 39, 41, 42, 43, 44, 46, 47, 48, 50, 51, 53, 54, 56, 57, 59, 61, 62, 64, 66]

/-- Gain words of -335 to -288 qdB (R44). -/
def gainWords4 : List Nat :=
  [68, 70, 72, 74, 76, 79, 81, 83, 86, 88, 91, 93, 96, 99, 102, 105, 108, 111, 114, 118, 121, 125, 128,
   132, 136, 140, 144, 148, 152, 157, 161, 166, 171, 176, 181, 186, 192, 198, 203, 209, 215, 222, 228, 235,
   242, 249, 256, 263]

/-- Gain words of -287 to -240 qdB (R44). -/
def gainWords5 : List Nat :=
  [271, 279, 287, 296, 304, 313, 322, 332, 341, 351, 361, 372, 383, 394, 406, 417, 430, 442, 455, 468, 482,
   496, 511, 526, 541, 557, 573, 590, 607, 625, 643, 662, 681, 701, 721, 742, 764, 786, 809, 833, 857, 882,
   908, 935, 962, 990, 1019, 1049]

/-- Gain words of -239 to -192 qdB (R44). -/
def gainWords6 : List Nat :=
  [1079, 1111, 1143, 1177, 1211, 1246, 1283, 1320, 1359, 1398, 1439, 1481, 1524, 1569, 1615, 1662, 1710,
   1760, 1812, 1865, 1919, 1975, 2033, 2092, 2153, 2216, 2281, 2347, 2416, 2487, 2559, 2634, 2711, 2790,
   2871, 2955, 3042, 3130, 3222, 3316, 3413, 3512, 3615, 3720, 3829, 3941, 4056, 4174]

/-- Gain words of -191 to -144 qdB (R44). -/
def gainWords7 : List Nat :=
  [4296, 4422, 4551, 4684, 4821, 4961, 5106, 5255, 5409, 5567, 5729, 5897, 6069, 6246, 6428, 6616, 6809,
   7008, 7213, 7423, 7640, 7863, 8093, 8329, 8572, 8823, 9080, 9345, 9618, 9899, 10188, 10486, 10792,
   11107, 11431, 11765, 12109, 12462, 12826, 13201, 13586, 13983, 14391, 14812, 15244, 15689, 16147, 16619]

/-- Gain words of -143 to -96 qdB (R44). -/
def gainWords8 : List Nat :=
  [17104, 17604, 18118, 18647, 19191, 19751, 20328, 20922, 21533, 22162, 22809, 23475, 24160, 24866, 25592,
   26339, 27108, 27900, 28714, 29553, 30416, 31304, 32218, 33159, 34127, 35124, 36149, 37205, 38291, 39409,
   40560, 41745, 42964, 44218, 45509, 46838, 48206, 49614, 51062, 52553, 54088, 55667, 57293, 58966, 60688,
   62460, 64284, 66161]

/-- Gain words of -95 to -48 qdB (R44). -/
def gainWords9 : List Nat :=
  [68093, 70081, 72127, 74233, 76401, 78632, 80928, 83291, 85724, 88227, 90803, 93454, 96183, 98992,
   101883, 104858, 107919, 111071, 114314, 117652, 121088, 124623, 128263, 132008, 135863, 139830, 143913,
   148115, 152440, 156892, 161473, 166188, 171041, 176035, 181176, 186466, 191911, 197515, 203282, 209218,
   215328, 221615, 228087, 234747, 241602, 248657, 255917, 263390]

/-- Gain words of -47 to 0 qdB (R44). -/
def gainWords10 : List Nat :=
  [271082, 278997, 287144, 295529, 304158, 313040, 322181, 331589, 341271, 351237, 361493, 372049, 382913,
   394094, 405602, 417446, 429635, 442181, 455093, 468382, 482059, 496135, 510622, 525533, 540879, 556673,
   572928, 589658, 606876, 624597, 642836, 661607, 680926, 700809, 721273, 742335, 764012, 786321, 809282,
   832914, 857235, 882267, 908029, 934544, 961834, 989920, 1018826, 1048576]

/-- Gain words of 1 to 48 qdB (R44). -/
def gainWords11 : List Nat :=
  [1079195, 1110708, 1143141, 1176522, 1210877, 1246235, 1282626, 1320079, 1358626, 1398299, 1439130,
   1481153, 1524403, 1568917, 1614730, 1661881, 1710409, 1760354, 1811757, 1864661, 1919110, 1975149,
   2032825, 2092184, 2153277, 2216154, 2280867, 2347469, 2416017, 2486566, 2559175, 2633904, 2710815,
   2789972, 2871441, 2955289, 3041585, 3130401, 3221810, 3315888, 3412714, 3512367, 3614930, 3720488,
   3829128, 3940941, 4056018, 4174456]

/-- The conversion table: entry i is the gain word of i − 479 qdB (R44). -/
def gainWords : List Nat :=
  gainWords1 ++ gainWords2 ++ gainWords3 ++ gainWords4 ++ gainWords5 ++ gainWords6 ++
    gainWords7 ++ gainWords8 ++ gainWords9 ++ gainWords10 ++ gainWords11

/-- The gain word of a level: 0 for the mute value, else round(2^20 × 10^(A/80)) for A from −479 to +48 (R44). -/
def gainWord (a : Int) : Int := if a ≤ -480 then 0 else ((gainWords.getD (a + 479).toNat 0 : Nat) : Int)

end Sys2Proof.Machine
end

