-- ==== Sys2Proof/Machine/SamplePlane.lean ====
section
/-! DEFINITION. The sample plane (chapter 1): SAMPLE_PERIOD. -/

namespace Sys2Proof.Machine

/-- The programme sample of a channel: its leg of its stream; SUM is the mean, rounded half up (R13). -/
def legSample (leg : Leg) (l r : Int) : Int :=
  match leg with
  | .left => l
  | .right => r
  | .sum => roundHalfUp 1 (l + r)

/-- The programme sample P of a channel, from positions 0 and 1 of its port (R2, R12, R13). -/
def programmeSample (p : Ports) (m : MixChan) : Int :=
  match m.source with
  | .progA => legSample m.leg p.progA[0].toInt p.progA[1].toInt
  | .progB => legSample m.leg p.progB[0].toInt p.progB[1].toInt

/-- The mix of a channel: the three sources weighted by the gain words of its applied gains (R14). -/
def mixSample (p : Ports) (m : MixChan) (g : PathGains) : Int :=
  roundHalfUp 20 (programmeSample p m * gainWord g.prog + p.ann[0].toInt * gainWord g.slot1 +
    p.ann[1].toInt * gainWord g.slot2)

/-- What the line presents once a sample has entered: the sample that entered D periods earlier (R16). -/
def DelayLine.present (l : DelayLine) (x : Int) : Int := (x :: l.samples).getD l.applied 0

/-- The line after a sample has entered; it keeps 960 samples, without trailing zeros (R16, log entry 22). -/
def DelayLine.push (l : DelayLine) (x : Int) : DelayLine :=
  { l with samples := ((x :: l.samples).take 960).rdropWhile (· = 0) }

/-- The canonical form of a line: at most 960 samples, the last one listed not 0 (log entry 22). -/
def DelayLine.wf (l : DelayLine) : Bool := l.samples.length ≤ 960 && l.samples.getLast? != some 0

/-- The fader and the polarity on a delayed sample (R18). -/
def fadedSample (o : OutChan) (x : Int) : Int :=
  let v := roundHalfUp 20 (x * gainWord o.fader.level)
  if o.polarity = .inverted then -v else v

/-- Limited to the 24-bit output range (R19). -/
def limit24 (v : Int) : Int := clamp (-8388608) 8388607 v

/-- What one sample period makes of a channel. -/
structure ChannelResult where
  sections : List EqSection
  line : DelayLine
  word : Word24
  clipped : Bool
  deriving DecidableEq, Repr

/-- One sample period of a channel: mixer, sections, delay line, fader, polarity, saturation (R14 to R19). -/
def runChannel (p : Ports) (s : State) (c : Nat) : ChannelResult :=
  let m := mixSample p (s.mixer.getD c MixChan.reset) (s.ramp.applied.getD c PathGains.mute)
  let eq := runSections (s.eq.getD c []) m
  let v := fadedSample (s.outChan c) ((s.line c).present eq.2.1)
  ⟨eq.1, (s.line c).push eq.2.1, BitVec.ofInt 24 (limit24 v), eq.2.2 || limit24 v != v⟩

/-- The output ports that carry one word for each channel: channel c at position p of OUT_k, k the whole part and p the
remainder of c / 8 (R3). -/
def OutPorts.ofWords (words : List Word24) : OutPorts :=
  let port (k : Nat) : Vector Word24 8 := Vector.ofFn fun p => words.getD (8 * k + p) 0
  ⟨port 0, port 1, port 2⟩

/-- The word at the output position of a channel (R3). -/
def OutPorts.ofChannel (o : OutPorts) (c : Nat) : Word24 :=
  (match c / 8 with
    | 0 => o.out0
    | 1 => o.out1
    | _ => o.out2)[c % 8]'(Nat.mod_lt _ (by decide))

/-- A sample period (R19): every channel runs; the words made two periods ago stand at the output positions (R6); a
saturation sets the channel's clip mark (R19, R99); the frame clock counts 0 to 47 (R4). -/
def samplePeriod (p : Ports) (s : State) : State :=
  let results := (List.range 24).map (runChannel p s)
  (((s.withEq (results.map (·.sections))).withLines (results.map (·.line))).withOutput
      (s.output.zipIdx.map fun q =>
        { q.1 with clipMark := q.1.clipMark || (runChannel p s q.2).clipped })).withAudio
    { clock := if 47 ≤ s.audio.clock then 0 else s.audio.clock + 1
      outputs := OutPorts.ofWords s.audio.stage2
      stage1 := results.map (·.word)
      stage2 := s.audio.stage1 }

/-- SAMPLE_PERIOD (R19). In reset the part drives no clock, so there is no sample period (R1). -/
def execSamplePeriod (ports : Ports) (s : State) : Answer := event (samplePeriod ports) s

end Sys2Proof.Machine
end

