-- ==== Sys2Proof/Machine/StartUp.lean ====
section
/-! DEFINITION. Reset and start-up (R142, R168, R172 to R176): SUPPLY_CUT, RESET_PIN, POWER_LOSS, RESET_RELEASE,
LOAD_COMPLETE. -/

namespace Sys2Proof.Machine

/-! ## Holding -/

/-- SUPPLY_CUT (R142). -/
def execSupplyCut (s : State) : Answer := .next (enterReset .supplyCut s)

/-- RESET_PIN (R175). -/
def execResetPin (s : State) : Answer := .next (enterReset .resetPin s)

/-- The supply falls below 3.0 V, and so below 6.0 V: the comparator holds the part, and the retention memory and all
volatile state are lost (R142, R175). -/
def losePower (s : State) : State :=
  let cut := enterReset .supplyCut s
  cut.withHold { cut.hold with powerLost := true }

/-- POWER_LOSS (R175). -/
def execPowerLoss (s : State) : Answer := .next (losePower s)

/-! ## Release -/

/-- The reset record written at a release (R175). -/
def recordAfter (h : ResetHold) (endedBy : Hold) (r : ResetRecord) : ResetRecord :=
  if h.powerLost then ResetRecord.powerOn
  else
    { cause := match endedBy with
        | .supplyCut => .supplyCut
        | .restartRequest => .restartRequest
        | .resetPin => .resetPin
      cutFlag := r.cutFlag || h.cutSeen
      count := min 255 (r.count + 1) }

/-- Whether a hold is in force. -/
def ResetHold.has (h : ResetHold) : Hold → Bool
  | .supplyCut => h.supply | .restartRequest => h.restart | .resetPin => h.pin

/-- Whether every table of stored contents meets its owner's constraints (R162): the numbers (R8, R32, R33, R188), SPEED_CURVE
(R88), CLASSES (R111), CH_ROUTE (R9) and the stability of every set (R101). That stability is a constraint in the sense of
R162 even of a set that an upset changed before an accepted SAVE FACTORY is a DESIGN CHOICE, log entry 31. -/
def imageOk (f : FactoryImage) : Bool :=
  (TableId.all.all fun id => numsOk id (f.tables.nums id)) &&
    (f.tables.speedCurve.all CurvePoint.inRange && curveOk f.tables.speedCurve) &&
    f.tables.classes.all ClassEntry.inRange && f.tables.route.all Route.inRange && f.sets.all fun e => stable e.words

/-- Whether a stored copy has been damaged. -/
def imageDamaged (f : FactoryImage) : Bool := f.sets.any fun e => !e.checkOk

/-- The state of the FACTORY region as the release finds it (R162): a VALID region stays VALID if its check value agrees
with its contents and its tables meet their constraints. Over damaged contents the agreement is a free value. -/
def examinedFactory (s : State) : RegionState :=
  if s.store.factoryState = .valid then
    if (imageDamaged s.store.factory → Config.damagedFactoryAgrees s.draws = true) ∧ imageOk s.store.factory then .valid
    else .corrupt
  else s.store.factoryState

/-- The store at a release: contents, states and flag stay, no request waits, LOAD begins (R162, R168, R172). -/
def Store.released (st : Store) (factoryState : RegionState) : Store :=
  { st with factoryState := factoryState, running := some .load, waiting := none, lastDone := none }

/-- The release from reset (R172): every volatile value as after reset, the reset record written, the regions examined,
LOADING, and LOAD begun. -/
def release (endedBy : Hold) (s : State) : State :=
  { State.reset with
    store := s.store.released (examinedFactory s)
    record := recordAfter s.hold endedBy s.record
    draws := s.draws + 1
    pending := s.pending
    received := s.received }

/-- The marks once a hold has ended; what happened during the reset stays marked (R175). -/
def ResetHold.drop (h : ResetHold) : Hold → ResetHold
  | .supplyCut => { h with supply := false }
  | .resetPin => { h with pin := false }
  | .restartRequest => { h with restart := false }

/-- A hold ends. The part is released where no other hold is in force, and otherwise stays in reset (R142, R175). -/
def endHold (endedBy : Hold) (s : State) : State :=
  let left := s.withHold (s.hold.drop endedBy)
  if left.held then left else release endedBy s

/-- RESET_RELEASE (R172, R175): the end of a hold in force. -/
def execResetRelease (endedBy : Hold) (s : State) : Answer :=
  .next (if s.hold.has endedBy then endHold endedBy s else s)

/-! ## LOAD (R173, R174) -/

/-- A table of numbers placed whole, as an accepted write of the whole table (R173). -/
def placeNums (f : FactoryImage) (s : State) (id : TableId) : State :=
  acceptNums id 0 id.entries (f.tables.nums id) s

/-- Step 1: every working table takes the region's copy, in the order of the table ids (R173; the order: DESIGN CHOICE,
log entry 13). -/
def placeFactory (f : FactoryImage) (s : State) : State :=
  let levels := [TableId.volume, .annVolume, .balance, .fade].foldl (placeNums f) s
  let routed := acceptRoute f.tables.route (acceptClasses f.tables.classes (acceptCurve f.tables.speedCurve levels))
  let columns := [TableId.trim, .ceiling, .annTrim, .sdvWeight, .delay, .globals].foldl (placeNums f) routed
  writeSets false 0 (f.sets.map (·.words)) columns

/-- One dealer patch applied, or skipped and counted (R173). -/
def applyPatch (s : State) (r : PatchRec) : State :=
  if patchOk r.table r.index r.value s then writePatch r.table r.index r.value s
  else s.withStartup { s.startup with skipped := s.startup.skipped + 1 }

/-- Step 2: the working patch list, and its records over the factory tables (R173). -/
def placePatches (s : State) : State :=
  let l := if s.store.dealerState = .valid then s.store.dealer else []
  let listed := (s.withPatches l).withStartup { s.startup with skipped := 0 }
  if s.store.factoryState = .valid then l.foldl applyPatch listed else listed

/-- A scene with both volumes limited to START_VOL_CAP (R173). -/
def capScene (cap : Int) (sc : Scene) : Scene :=
  (sc.set Setting.volFront.index (min cap (sc.val .volFront))).set Setting.volRear.index (min cap (sc.val .volRear))

/-- Step 3: the start scene, or the built-in defaults, capped (R173); a changed SDV_LEVEL recomputes (R92). -/
def placeScene (s : State) : State :=
  let sc := if s.store.startState = .valid then s.store.start else s.planner.live
  let placed := s.withPlanner { s.planner with live := capScene (s.tables.global .startVolCap) sc }
  if placed.planner.live.val .sdvLevel = s.planner.live.val .sdvLevel then placed else recompute placed

/-- Step 4, the end of LOADING (R174): RUNNING removes STARTUP from every channel, TUNELESS keeps it; READY is posted. -/
def endLoading (s : State) : State :=
  if s.store.factoryState = .valid then
    ((s.withStartup { s.startup with state := .running }).mapOut (OutChan.removeReason .startup)).post .ready
  else (s.withStartup { s.startup with state := .tuneless }).post .ready

/-- The completion event of LOAD, after which the controller is free (R165, R173). READY is posted before the COEFF_STATE of a
read that begins in the same event: DESIGN CHOICE, log entry 32. Where FACTORY is not VALID, a set that has left GOOD during
LOADING keeps its state, and its waiting read begins here: DEDUCED, log entry 33. -/
def completeLoad (s : State) : State :=
  if s.store.running = some .load then
    let freed := s.withStore { s.store with running := none }
    let tabled := if s.store.factoryState = .valid then placeFactory s.store.factory freed else freed
    grantNext (endLoading (placeScene (placePatches tabled)))
  else s

/-- LOAD_COMPLETE (R173). -/
def execLoadComplete (s : State) : Answer := event completeLoad s

end Sys2Proof.Machine
end

