-- ==== Sys2Proof/Machine/SupplyMonitor.lean ====
section
/-! DEFINITION. The supply monitor (chapter 7): SUPPLY_READING, RUN_COMPLETE, SETTLE_COMPLETE. -/

namespace Sys2Proof.Machine

/-- The reading of a mean supply in millivolts: whole units of 0.1 V, above 25.5 V taken as 255 (R133). -/
def readingOf (millivolts : Nat) : Nat := min 255 (millivolts / 100)

/-- On which side of the working range a reading lies (R134, R136). -/
def sideOf (t : Tables) (u : Nat) : RunSide :=
  if (u : Int) < t.global .lowEnter then .low else if t.global .highEnter < (u : Int) then .high else .none

/-- The debounce step (R136): the side and count after a reading, before a complete run is taken off. -/
def debounce (t : Tables) (u : Nat) (m : Supply) : RunSide × Nat :=
  match sideOf t u with
  | .none => (.none, 0)
  | side => (side, if m.side = side then m.count + 1 else 1)

/-- The state that a run enters once it counts three readings (R136). -/
def runEnters (run : RunSide × Nat) : Option MonitorState :=
  if 3 ≤ run.2 then
    match run.1 with
    | .low => some .low
    | .high => some .high
    | .none => none
  else none

/-- The settle length in readings: SETTLE SHORT 50, LONG 400 (R134). -/
def settleLength (t : Tables) : Nat := if t.global .settle = 1 then 400 else 50

/-- Whether a reading ends LOW or HIGH (R138). -/
def leavesExcursion (t : Tables) (u : Nat) (x : MonitorState) : Bool :=
  match x with
  | .low => t.global .lowLeave ≤ (u : Int)
  | .high => (u : Int) ≤ t.global .highLeave
  | _ => false

/-- The monitor after one reading, in the order of R146: debounce step, state change, settle counter. -/
def Supply.take (t : Tables) (u : Nat) (m : Supply) : Supply :=
  let run := debounce t u m
  match m.state with
  | .normal =>
    match runEnters run with
    | some x => { m with state := x, side := .none, count := 0, reading := u }
    | none => { m with side := run.1, count := run.2, reading := u }
  | .settling =>
    match runEnters run with
    | some x => { m with state := x, side := .none, count := 0, reading := u }
    | none =>
      { m with
        state := if settleLength t ≤ m.settle + 1 then .normal else .settling
        side := run.1, count := run.2, settle := m.settle + 1, reading := u }
  | x =>
    if leavesExcursion t u x then
      { m with state := .settling, side := run.1, count := run.2, settle := 0, reading := u }
    else { m with reading := u }

/-- SUPPLY on every channel exactly while the monitor is not NORMAL: added in the event that leaves NORMAL, removed in
the event that enters it, and shown so at once, so that no QUERY sees one without the other (R59, R140, log entry 14). Between
LOW, HIGH and SETTLING the addition finds SUPPLY present, and what is shown stays (R140). -/
def supplyReasons (was now : MonitorState) (s : State) : State :=
  if was = now then s
  else if now = .normal then s.mapOut fun o => (o.removeReason .supply).show
  else if was = .normal then s.mapOut fun o => (o.addReason .supply).show
  else s.mapOut (OutChan.addReason .supply)

/-- A reading is handled, as one event (R137 to R140, R145, R146). -/
def takeReading (u : Nat) (s : State) : State :=
  let m := s.supply.take s.tables u
  let moved := supplyReasons s.supply.state m.state (s.withSupply m)
  if m.state = s.supply.state then moved else moved.post .supplyState

/-- SUPPLY_READING (R133): a reading, whatever comes of it. -/
def execSupplyReading (millivolts : Nat) (s : State) : Answer := event (takeReading (readingOf millivolts)) s

/-- Whether a reading completes a run (R136). -/
def completesRun (u : Nat) (s : State) : Bool :=
  (s.supply.state = .normal || s.supply.state = .settling) && (runEnters (debounce s.tables u s.supply)).isSome

/-- Whether a reading completes the settle time (R139). -/
def completesSettle (u : Nat) (s : State) : Bool :=
  s.supply.state = .settling && (s.supply.take s.tables u).state = .normal

/-- RUN_COMPLETE (R136, R137, R139): a reading that completes a run; no other reading is one. -/
def execRunComplete (millivolts : Nat) (s : State) : Answer :=
  event (fun s => if completesRun (readingOf millivolts) s then takeReading (readingOf millivolts) s else s) s

/-- SETTLE_COMPLETE (R139): a reading that completes the settle time; no other reading is one. -/
def execSettleComplete (millivolts : Nat) (s : State) : Answer :=
  event (fun s => if completesSettle (readingOf millivolts) s then takeReading (readingOf millivolts) s else s) s

end Sys2Proof.Machine
end

