-- ==== Sys2Proof/Machine/Dispatch.lean ====
section
/-! DEFINITION. One arm per command, each one direct call of its meaning. -/

namespace Sys2Proof.Machine

/-- The effect of a command on everything but the queue. -/
def exec (i : Instr) (s : State) : Host.Outcome State Fault Refusal :=
  match i with
  | .set tag payload => Sys2Proof.Machine.execSet tag payload s
  | .commit tag payload => Sys2Proof.Machine.execCommit tag payload s
  | .query tag payload => Sys2Proof.Machine.execQuery tag payload s
  | .speed tag payload => Sys2Proof.Machine.execSpeed tag payload s
  | .annStart tag payload => Sys2Proof.Machine.execAnnStart tag payload s
  | .annEnd tag payload => Sys2Proof.Machine.execAnnEnd tag payload s
  | .tableWrite tag payload => Sys2Proof.Machine.execTableWrite tag payload s
  | .tableRead tag payload => Sys2Proof.Machine.execTableRead tag payload s
  | .save tag payload => Sys2Proof.Machine.execSave tag payload s
  | .closeFactory tag payload => Sys2Proof.Machine.execCloseFactory tag payload s
  | .patchPut tag payload => Sys2Proof.Machine.execPatchPut tag payload s
  | .patchDrop tag payload => Sys2Proof.Machine.execPatchDrop tag payload s
  | .counters tag payload => Sys2Proof.Machine.execCounters tag payload s
  | .clearHistory tag payload => Sys2Proof.Machine.execClearHistory tag payload s
  | .restart tag payload => Sys2Proof.Machine.execRestart tag payload s
  | .badKind kind tag payload => Sys2Proof.Machine.execBadKind kind tag payload s
  | .crcError body crc => Sys2Proof.Machine.execCrcError body crc s
  | .frameLengthInvalid length => Sys2Proof.Machine.execFrameLengthInvalid length s
  | .linkGap next => Sys2Proof.Machine.execLinkGap next s
  | .frameSent => Sys2Proof.Machine.execFrameSent s
  | .commitTaken => Sys2Proof.Machine.execCommitTaken s
  | .plannerBoundary => Sys2Proof.Machine.execPlannerBoundary s
  | .rampBoundary => Sys2Proof.Machine.execRampBoundary s
  | .rampStep => Sys2Proof.Machine.execRampStep s
  | .drainCompletion slot => Sys2Proof.Machine.execDrainCompletion slot s
  | .outputStageStep => Sys2Proof.Machine.execOutputStageStep s
  | .applyDelay => Sys2Proof.Machine.execApplyDelay s
  | .eqBoundary => Sys2Proof.Machine.execEqBoundary s
  | .scannerCheck => Sys2Proof.Machine.execScannerCheck s
  | .upset index flips checkFlips => Sys2Proof.Machine.execUpset index flips checkFlips s
  | .readSetBegin => Sys2Proof.Machine.execReadSetBegin s
  | .readSetComplete recheckPasses => Sys2Proof.Machine.execReadSetComplete recheckPasses s
  | .arbiterBoundary => Sys2Proof.Machine.execArbiterBoundary s
  | .expiry => Sys2Proof.Machine.execExpiry s
  | .speedTrackerBoundary => Sys2Proof.Machine.execSpeedTrackerBoundary s
  | .staleTimeout => Sys2Proof.Machine.execStaleTimeout s
  | .windowEnd => Sys2Proof.Machine.execWindowEnd s
  | .pulseCounted edge => Sys2Proof.Machine.execPulseCounted edge s
  | .supplyReading millivolts => Sys2Proof.Machine.execSupplyReading millivolts s
  | .runComplete millivolts => Sys2Proof.Machine.execRunComplete millivolts s
  | .settleComplete millivolts => Sys2Proof.Machine.execSettleComplete millivolts s
  | .supplyCut => Sys2Proof.Machine.execSupplyCut s
  | .resetPin => Sys2Proof.Machine.execResetPin s
  | .resetRelease endedBy => Sys2Proof.Machine.execResetRelease endedBy s
  | .loadComplete => Sys2Proof.Machine.execLoadComplete s
  | .hostOperationBegin => Sys2Proof.Machine.execHostOperationBegin s
  | .saveComplete verified => Sys2Proof.Machine.execSaveComplete verified s
  | .closeComplete verified => Sys2Proof.Machine.execCloseComplete verified s
  | .samplePeriod ports => Sys2Proof.Machine.execSamplePeriod ports s
  | .powerLoss => Sys2Proof.Machine.execPowerLoss s
  | .storedCopyDamaged index flips => Sys2Proof.Machine.execStoredCopyDamaged index flips s

end Sys2Proof.Machine
end

