-- ==== Sys2Proof/Machine/Receive.lean ====
section
/-! DEFINITION. The receive assembler (R177, R178): from the bytes on LINK_RX to the commands of the link. -/

namespace Sys2Proof.Machine

/-- The command that a good frame is, by its KIND (R179, R180). -/
def commandOfFrame (kind tag : Byte) (payload : List Byte) : Instr :=
  match kind.toNat with
  | 0x01 => .set tag payload
  | 0x02 => .commit tag payload
  | 0x03 => .query tag payload
  | 0x04 => .speed tag payload
  | 0x05 => .annStart tag payload
  | 0x06 => .annEnd tag payload
  | 0x07 => .tableWrite tag payload
  | 0x08 => .tableRead tag payload
  | 0x09 => .save tag payload
  | 0x0A => .closeFactory tag payload
  | 0x0B => .patchPut tag payload
  | 0x0C => .patchDrop tag payload
  | 0x0D => .counters tag payload
  | 0x0E => .clearHistory tag payload
  | 0x0F => .restart tag payload
  | _ => .badKind kind tag payload

/-- The check of a complete frame: LENGTH, the body bytes KIND, TAG and PAYLOAD, the two CRC bytes (R177, R178). -/
def checkFrame (length : Byte) (body : List Byte) (crcHi crcLo : Byte) : Instr :=
  match body with
  | kind :: tag :: payload =>
    if crcHi ++ crcLo = crc16 (length :: body) then commandOfFrame kind tag payload
    else .crcError (length :: body) (crcHi ++ crcLo)
  | _ => .crcError (length :: body) (crcHi ++ crcLo)

/-- One byte into the assembler: its state after the byte, and the command that the byte completes (R177). -/
def Assembler.take (a : Assembler) (b : Byte) : Assembler × Option Instr :=
  match a with
  | .hunting => (if b = 0xA5 then .started else .hunting, none)
  | .started =>
    if b.toNat < 2 ∨ 250 < b.toNat then (.hunting, some (.frameLengthInvalid b)) else (.collecting b [], none)
  | .collecting length collected =>
    let n := length.toNat
    let all := collected ++ [b]
    if all.length < n + 2 then (.collecting length all, none)
    else (.hunting, some (checkFrame length (all.take n) (all.getD n 0) (all.getD (n + 1) 0)))

/-- A byte arrives on LINK_RX (R177). In reset it is lost. After more than 2 ms inside a frame it ends the gap. Otherwise the
assembler takes it, and the command that it completes happens in the event of its arrival. -/
def receiveByte (r : RxByte) (s : State) : Answer :=
  if s.held then .next s
  else if r.late ∧ s.link.assembler ≠ .hunting then exec (.linkGap r.value) s
  else
    let taken := s.link.assembler.take r.value
    let assembled := s.withLink { s.link with assembler := taken.1 }
    match taken.2 with
    | none => .next assembled
    | some c => exec c assembled

end Sys2Proof.Machine
end

