-- ==== Sys2Proof/Machine/Step.lean ====
section
/-! DEFINITION. One step: the command at the front of the queue, a byte on LINK_RX, or idling. -/

namespace Sys2Proof.Machine

/-- One step: the command at the front of the queue is taken and run on the state with the rest of the queue. On an empty
queue the byte that waits longest on LINK_RX arrives (log entry 18), and where none waits the block idles (log entry 4). -/
def step (s : State) : Host.Outcome State Fault Refusal :=
  match s.pending with
  | [] =>
    match s.received with
    | [] => .next s
    | b :: rest => receiveByte b (s.withReceived rest)
  | c :: rest => exec c (s.withPending rest)

/-- `s` with the command that a word spells put at the front of its queue; `s` itself where the word spells none (no
row of the table gives a word any bits). -/
def State.withFetchWord (s : State) (nbits w : Nat) : State :=
  match decodeTableWord nbits w with
  | some c => s.withPending (c :: s.pending)
  | none => s

end Sys2Proof.Machine
end

