-- ==== Sys2Proof/Safety.lean ====
section
/-! DEFINITION. The terms of the statements: what an event leaves alone, what it sends, and what holds of the block at
every moment of a run. -/

namespace Sys2Proof

open Sys2Proof.Machine

/-! ## Frames: which blocks an event changes -/

/-- The blocks of the part, one for each field of State. -/
inductive Block where
  | tables | planner | mixer | ramp | output | lines | eq | tracker | arbiter | supply | integrity | read | store
  | patches | startup | record | hold | link | audio | draws | pending | received
  deriving DecidableEq, Repr

/-- A block stands the same in two states. -/
def Block.same (s t : State) : Block → Prop
  | .tables => t.tables = s.tables
  | .planner => t.planner = s.planner
  | .mixer => t.mixer = s.mixer
  | .ramp => t.ramp = s.ramp
  | .output => t.output = s.output
  | .lines => t.lines = s.lines
  | .eq => t.eq = s.eq
  | .tracker => t.tracker = s.tracker
  | .arbiter => t.arbiter = s.arbiter
  | .supply => t.supply = s.supply
  | .integrity => t.integrity = s.integrity
  | .read => t.read = s.read
  | .store => t.store = s.store
  | .patches => t.patches = s.patches
  | .startup => t.startup = s.startup
  | .record => t.record = s.record
  | .hold => t.hold = s.hold
  | .link => t.link = s.link
  | .audio => t.audio = s.audio
  | .draws => t.draws = s.draws
  | .pending => t.pending = s.pending
  | .received => t.received = s.received

/-- Every block but the listed ones stands the same in `t` as in `s`. -/
def Only (changed : List Block) (s t : State) : Prop := ∀ b, b ∉ changed → b.same s t

/-! ## The link: when an event is taken, and what it sends -/

/-- The queues of the link controller: at most four replies (R179), each notice kind at most once (R182), and nothing
waits at an idle transmitter (R181). -/
def LinkOk (l : Link) : Prop :=
  l.replies.length ≤ 4 ∧ l.notices.Nodup ∧ (l.tx = none → l.replies = [] ∧ l.notices = [])

/-- The part is not held in reset, and its link is in order: an event is taken. -/
def Awake (s : State) : Prop := s.held = false ∧ LinkOk s.link

/-- A request of a known kind and the right length reaches its owner: fewer than four replies wait (R179) and the part
is not LOADING (R180). -/
def Handles (s : State) : Prop := Awake s ∧ s.link.replies.length < 4 ∧ s.startup.state ≠ .loading

/-- The reply frame of a request (R179). -/
def replyFrame (kind tag : Byte) (x : Status) (content : List Byte) : Frame :=
  ⟨kind + 0x80, tag, x.code :: content⟩

/-- The link once the last byte of a good frame has arrived: the assembler is outside a frame (R177). -/
def afterFrame (l : Link) : Link := { l with assembler := .hunting }

/-- An event on a link that stood as `was` has appended the replies `rs` and posted the notices `ns`, and has left the
state `t`. A busy transmitter goes on with its frame. An idle one has begun a frame: a reply or a notice (R181, R182). That a
notice's content is the one that the event leaves in `t` is DEDUCED, log entry 28; which of the two begins is a free choice,
log entry 7. -/
def Sends (was : Link) (t : State) (rs : List Frame) (ns : List Notice) : Prop :=
  let replies := was.replies ++ rs
  let notices := was.notices ++ ns.filter fun n => n ∉ was.notices
  if was.tx ≠ none ∨ (replies = [] ∧ notices = []) then
    t.link = { was with replies := replies, notices := notices }
  else
    (∃ r rest, replies = r :: rest ∧ t.link = { was with tx := some r, replies := rest, notices := notices }) ∨
    (∃ n rest, notices = n :: rest ∧
      t.link = { was with tx := some ⟨n.code, 0, noticeContent t n⟩, replies := replies, notices := rest })

/-- A request that found the state `s` has appended its one reply and posted the notices `ns`, and has left the state `t`
(R179, R182). -/
def Replies (s t : State) (kind tag : Byte) (x : Status) (content : List Byte) (ns : List Notice) : Prop :=
  Sends (afterFrame s.link) t [replyFrame kind tag x content] ns

/-- A request is refused with a status, and nothing but the link has changed. -/
def Refused (s t : State) (kind tag : Byte) (x : Status) : Prop :=
  Only [.link, .draws] s t ∧ Replies s t kind tag x [] []

/-- A notice kind is waiting, or its frame is in transmission. -/
def OnItsWay (t : State) (n : Notice) : Prop := n ∈ t.link.notices ∨ ∃ f, t.link.tx = some f ∧ f.kind = n.code

/-- The CRC of R178, bit by bit: generator 0x1021, initial value 0xFFFF, each byte most significant bit first. -/
def crcOf (bytes : List Byte) : BitVec 16 :=
  (bytes.flatMap fun b => (List.range 8).map fun i => b.getLsbD (7 - i)).foldl
    (fun r bit => if r.getLsbD 15 = bit then r <<< 1 else (r <<< 1) ^^^ 0x1021) 0xFFFF

/-- `n` steps in a row, each with a next state, lead from one state to another. -/
def Runs : Nat → State → State → Prop
  | 0, s, t => t = s
  | n + 1, s, t => ∃ u, step s = .next u ∧ Runs n u t

/-- The request kinds of R180 with their commands. -/
def requestKinds : List (Byte × (Byte → List Byte → Instr)) :=
  [(0x01, .set), (0x02, .commit), (0x03, .query), (0x04, .speed), (0x05, .annStart), (0x06, .annEnd), (0x07, .tableWrite),
   (0x08, .tableRead), (0x09, .save), (0x0A, .closeFactory), (0x0B, .patchPut), (0x0C, .patchDrop), (0x0D, .counters),
   (0x0E, .clearHistory), (0x0F, .restart)]

/-! ## Shapes -/

/-- A captured start scene has its 17 values, and a captured FACTORY image its 344 sets. -/
def HostOpShapeOk : HostOp → Prop
  | .saveStart sc => sc.length = 17
  | .saveFactory f => f.sets.length = 344
  | _ => True

/-- Every list of records has the length that the part has of them: 24 channels, 8 sections, 17 settings, 344 sets. -/
def ShapeOk (s : State) : Prop :=
  (s.planner.live.length = 17 ∧ s.planner.waiting.length = 17 ∧ s.planner.targets.length = 24 ∧
      s.planner.tone.length = 24 ∧ s.planner.readCeiling.length = 24) ∧
    (s.mixer.length = 24 ∧ s.ramp.applied.length = 24 ∧ s.output.length = 24 ∧ s.lines.length = 24) ∧
    (s.eq.length = 24 ∧ ∀ ch ∈ s.eq, ch.length = 8) ∧ s.integrity.sets.length = 344 ∧
    (s.store.start.length = 17 ∧ s.store.factory.sets.length = 344) ∧
    (∀ op, s.store.waiting = some op → HostOpShapeOk op) ∧ ∀ op, s.store.running = some (.host op) → HostOpShapeOk op

/-! ## Faders -/

/-- An output fader is OPEN or OPENING exactly while its close-reason set is empty, and its level lies between −480 and
0 (R60); CLOSED means −480 and OPEN means 0, and no fader stands between −480 and −240 (R63, R64); a channel with a
pending delay keeps a reason (R68). -/
def FaderOk (o : OutChan) : Prop :=
  (o.fader.reasons.isEmpty = true ↔ o.fader.state = .opened ∨ o.fader.state = .opening) ∧
    (o.pendingDelay ≠ none → o.fader.reasons.isEmpty = false) ∧
    o.fader.level ≤ 0 ∧ (o.fader.level = -480 ∨ -240 ≤ o.fader.level) ∧
    (o.fader.state = .closed → o.fader.level = -480) ∧ (o.fader.state = .opened → o.fader.level = 0)

/-- Every fader follows its close-reason set. -/
def FadersOk (s : State) : Prop := ∀ o ∈ s.output, FaderOk o

/-- SUPPLY is in every channel's set exactly while the monitor is not NORMAL, and so in the set that a QUERY shows (R140);
the debounce count never holds 3 (R135), and no run is open in LOW and HIGH (R136). -/
def SupplyOk (s : State) : Prop :=
  (∀ o ∈ s.output, o.fader.reasons.supply = decide (s.supply.state ≠ .normal) ∧
      o.shown.reasons.supply = decide (s.supply.state ≠ .normal)) ∧ s.supply.count ≤ 2 ∧
    (s.supply.state = .low ∨ s.supply.state = .high → s.supply.side = .none ∧ s.supply.count = 0)

/-- STARTUP is in every channel's set exactly while the start-up state is not RUNNING (R59, R174); LOAD runs only while
LOADING (R172, R173). -/
def StartupOk (s : State) : Prop :=
  (∀ o ∈ s.output, o.fader.reasons.startup = decide (s.startup.state ≠ .running)) ∧
    (s.store.running = some .load → s.startup.state = .loading)

/-- DISABLED is in a channel's set exactly while its CH_ROUTE entry has enabled no (R70). -/
def DisabledOk (s : State) : Prop :=
  s.output.length = 24 ∧
    ∀ c, c < 24 → (s.outChan c).fader.reasons.disabled = !(s.tables.routeOf c).enabled

/-- SUPPLY, STARTUP and DISABLED stand in the close-reason sets exactly as the states of their owners say. -/
def ReasonsOk (s : State) : Prop := SupplyOk s ∧ StartupOk s ∧ DisabledOk s

/-! ## Announcements -/

/-- An ACTIVE class holds its slot and an ACTIVE slot its class (R113). -/
def SlotsMatch (a : Arbiter) : Prop := ∀ k slot, (a.classes.get k).state = .active slot ↔ a.slots.get slot = .active k

/-- No class is PENDING while a slot is FREE (R119). -/
def NoneWaitsAtFreeSlot (a : Arbiter) : Prop :=
  (∃ k, (a.classes.get k).state = .pending) → ∀ slot, a.slots.get slot ≠ .free

/-- The records match, and arbitration over them would change nothing (R113, R119). -/
def Settled (s : State) : Prop := SlotsMatch s.arbiter ∧ arbitrated s.tables s.arbiter = s.arbiter

/-! ## Coefficient sets -/

/-- A read is in progress exactly while the store controller runs READ_SET, and the set that a read not marked for
discard is restoring is RESTORING (R154, R165). -/
def ReadOk (s : State) : Prop :=
  (s.read ≠ none ↔ s.store.running = some .readSet) ∧
    ∀ r, s.read = some r → r.discard = false → r.index < 344 ∧ (s.coeffSet r.index).state = .restoring

/-- A set is in the restore queue exactly while it is SUSPECT, and at most once (R152). -/
def QueueOk (s : State) : Prop :=
  s.integrity.sets.length = 344 ∧ s.integrity.queue.Nodup ∧
    ∀ i, i ∈ s.integrity.queue ↔ i < 344 ∧ (s.coeffSet i).state = .suspect

/-- FAULT is in a channel's set exactly while one of its six fixed sets is not GOOD (R153). -/
def FaultOk (s : State) : Prop :=
  s.output.length = 24 ∧ s.integrity.sets.length = 344 ∧
    ∀ c, c < 24 →
      ((s.outChan c).fader.reasons.fault = true ↔ ∃ k, k < 6 ∧ (s.coeffSet (6 * c + k)).state ≠ .good)

/-- A controller that an event has freed, over the checker's records `n` and the store `st` (its operation done), begins what
waits and leaves `t`: the read of the set at the head of the restore queue, and otherwise the waiting host operation (R154,
R165). The read takes the stored copy as it stands when it begins (DEDUCED, log entry 11). -/
def Begins (n : Integrity) (st : Store) (t : State) : Prop :=
  match n.queue with
  | i :: rest =>
    let copy := st.factory.sets.getD i ⟨passThrough, false⟩
    t.integrity = { n with
        sets := n.sets.modify i fun e => { e with state := .restoring }
        queue := rest, last := some ⟨i, .restoring, false⟩ } ∧
      t.read = some ⟨i, false, if st.factoryState = .valid ∧ copy.checkOk = true then some copy.words else none⟩ ∧
      t.store = { st with running := some .readSet }
  | [] =>
    t.integrity = n ∧ t.read = none ∧ t.store = { st with running := st.waiting.map StoreOp.host, waiting := none }

/-- The notice that a read posts if one begins over the records `n` (R154). -/
def beginPosts (n : Integrity) : List Notice := if n.queue = [] then [] else [.coeffState]

/-- The store of a part that a reset has taken: an interrupted save leaves its region CORRUPT, every other operation and every
waiting one leaves no trace (R168). -/
def afterReset (st : Store) : Store :=
  let idle := { st with running := none, waiting := none }
  match st.running with
  | some (.host (.saveFactory _)) => { idle with factoryState := .corrupt }
  | some (.host (.saveDealer _)) => { idle with dealerState := .corrupt }
  | some (.host (.saveStart _)) => { idle with startState := .corrupt }
  | some (.host .close) | some .load | some .readSet | none => idle

/-! ## Patches -/

/-- At most 16 records, and no two for one target (R169). -/
def PatchListOk (l : List PatchRec) : Prop := l.length ≤ 16 ∧ (l.map fun r => (r.table, r.index)).Nodup

/-- The contents that an accepted SAVE DEALER captured meet the list's constraint. -/
def HostOpPatchesOk : HostOp → Prop
  | .saveDealer l => PatchListOk l
  | _ => True

/-- The working list, the DEALER region and every list on its way there meet the constraint (R162, R169). -/
def PatchesOk (s : State) : Prop :=
  PatchListOk s.patches ∧ PatchListOk s.store.dealer ∧ (∀ op, s.store.waiting = some op → HostOpPatchesOk op) ∧
    ∀ op, s.store.running = some (.host op) → HostOpPatchesOk op

/-! ## Speed -/

/-- The ranges of R71, and PULSE exactly while SPEED_SOURCE is PULSE (R73). In FRESH the stale counter is still below the
largest limit (R77). -/
def TrackerOk (s : State) : Prop :=
  (s.tracker.sf ≤ 255 ∧ s.tracker.lastSample ≤ 255 ∧ s.tracker.windowFrames ≤ 249 ∧ s.tracker.windowPulses ≤ 4095) ∧
    (s.tracker.staleCount ≤ 5000 ∧ (s.tracker.state = .fresh → s.tracker.staleCount < 5000)) ∧
    (s.tracker.boost ≤ 48 ∧ s.tracker.scaledBoost ≤ 48 ∧ s.tracker.bassOffset ≤ 12) ∧
    (s.tracker.state = .pulse ↔ s.tables.global .speedSource = 1)

/-- The boost at Sf, the scaled boost and the bass offset, recomputed in that order (R89 to R92). -/
def derived (t : Tables) (live : Scene) (m : Tracker) : Tracker :=
  let boost := curveBoost m.sf (inUsePoints t.speedCurve)
  let bs := min 48 (boost * (live.val .sdvLevel).toNat / 4)
  { m with
    boost := boost, scaledBoost := bs
    bassOffset := if t.global .sdvBassDiv = 0 then 0 else bs / (t.global .sdvBassDiv).toNat }

/-! ## Working tables -/

/-- The ten tables of plain numbers. -/
def numberTables : List TableId :=
  [.volume, .annVolume, .balance, .fade, .trim, .ceiling, .annTrim, .sdvWeight, .delay, .globals]

/-- Every number of a table lies in a range. -/
def Within (lo hi : Int) (l : List Int) : Prop := ∀ v ∈ l, lo ≤ v ∧ v ≤ hi

/-- The constraints of GLOBALS, entry by entry (R188): the ranges of R35, R51, R72, R134 and R173, SDV_BASS_DIV 0 or at
least 4 (R72), the four thresholds in their order (R134). -/
def GlobalsMeet (l : List Int) : Prop :=
  let field (i : Nat) (lo hi : Int) := lo ≤ l.getD i 0 ∧ l.getD i 0 ≤ hi
  (field 0 (-480) 0 ∧ field 1 0 15 ∧ field 2 1 64 ∧ field 3 1 64 ∧ field 4 16 64 ∧ field 5 0 1 ∧ field 6 1 50 ∧ field 7 0 1) ∧
    (field 8 1000 30000 ∧ field 9 1 15 ∧ field 10 0 48 ∧ (l.getD 10 0 = 0 ∨ 4 ≤ l.getD 10 0)) ∧
    (field 11 0 255 ∧ field 12 0 255 ∧ field 13 0 255 ∧ field 14 0 255 ∧
      l.getD 11 0 < l.getD 12 0 ∧ l.getD 12 0 < l.getD 13 0 ∧ l.getD 13 0 < l.getD 14 0) ∧
    field 15 0 1 ∧ field 16 0 63

/-- The constraints of a table of numbers: the channel tables (R8), the level tables with their entry 0 and their order (R32,
R33), GLOBALS (R188). -/
def NumbersMeet (id : TableId) (l : List Int) : Prop :=
  match id with
  | .volume | .annVolume => l.head? = some (-480) ∧ l.Pairwise (· ≤ ·) ∧ Within (-480) 0 l
  | .balance | .fade => l.head? = some 0 ∧ l.Pairwise (· ≤ ·) ∧ Within 0 480 l
  | .trim | .annTrim => Within (-96) 24 l
  | .ceiling => Within (-96) 48 l
  | .sdvWeight => Within 0 16 l
  | .delay => Within 0 960 l
  | .globals => GlobalsMeet l
  | .speedCurve | .classes | .route | .fixedSets | .bassSets | .trebleSets => True

/-- The constraints of SPEED_CURVE (R88): the fields in their ranges, at least two entries in use, those a prefix of the
table, entry 0 at speed 0, and over the entries in use speeds that rise and boosts that do not fall. -/
def CurveMeets (l : List CurvePoint) : Prop :=
  (∀ p ∈ l, p.speed ≤ 255 ∧ p.boost ≤ 48) ∧ 2 ≤ (l.filter (·.inUse)).length ∧
    l.Pairwise (fun p q => q.inUse = true → p.inUse = true) ∧ (∀ p, l.head? = some p → p.speed = 0) ∧
    (l.filter (·.inUse)).Pairwise fun p q => p.speed < q.speed ∧ p.boost ≤ q.boost

/-- Every table has its entries (R186). -/
def TablesFull (t : Tables) : Prop :=
  (∀ id ∈ numberTables, (t.nums id).length = id.entries) ∧ t.speedCurve.length = 8 ∧ t.classes.length = 4 ∧
    t.route.length = 24

/-- Every table meets its owner's constraints (R7, R8, R32, R33, R88, R110, R188). -/
def TablesMeet (t : Tables) : Prop :=
  (∀ id ∈ numberTables, NumbersMeet id (t.nums id)) ∧ CurveMeets t.speedCurve ∧
    (∀ e ∈ t.classes, e.level ≤ 3 ∧ e.duck ≤ 480 ∧ e.maxDuration ≤ 255) ∧ ∀ r ∈ t.route, r.toneGroup ≤ 3

/-- Every table has its entries and meets its owner's constraints. -/
def TablesValid (t : Tables) : Prop := TablesFull t ∧ TablesMeet t

/-! ## Entries of the tables of records on the link (R190) -/

/-- Four bytes are a CH_ROUTE entry: bit 6 of byte 0 and bits 0 to 3 of byte 1 are ignored, every other bit is read (R9,
R190). -/
def RouteReads (b : Vector Byte 4) (r : Route) : Prop :=
  (r.enabled = b[0].getLsbD 7 ∧ [Zone.front, .rear, .cabin][b[0].toNat / 16 % 4]? = some r.zone ∧
      [Leg.left, .right, .sum][b[0].toNat / 4 % 4]? = some r.leg ∧
      [Side.left, .centre, .right][b[0].toNat % 4]? = some r.side) ∧
    ([Row.front, .mid, .back][b[1].toNat / 64]? = some r.row ∧ r.exempt = b[1].getLsbD 5 ∧
      r.polarity = if b[1].getLsbD 4 = true then .inverted else .normal) ∧
    (r.seats = ⟨b[2].getLsbD 0, b[2].getLsbD 1, b[2].getLsbD 2, b[2].getLsbD 3⟩ ∧ b[2].toNat < 16) ∧
    r.toneGroup = b[3].toNat ∧ r.toneGroup ≤ 3

/-- Five bytes are a CLASSES entry (R110, R111, R190). -/
def ClassReads (b : Vector Byte 5) (e : ClassEntry) : Prop :=
  (e.level = b[0].toNat ∧ e.level ≤ 3) ∧ (e.duck = b[1].toNat * 256 + b[2].toNat ∧ e.duck ≤ 480) ∧
    e.maxDuration = b[3].toNat ∧ b[4] = if e.resume = true then 1 else 0

/-- Three bytes are a SPEED_CURVE entry (R87, R88, R190). -/
def CurveReads (b : Vector Byte 3) (p : CurvePoint) : Prop :=
  p.speed = b[0].toNat ∧ (p.boost = b[1].toNat ∧ p.boost ≤ 48) ∧ b[2] = if p.inUse = true then 1 else 0

/-! ## The tables of a state -/

/-- The tables that an accepted SAVE FACTORY captured are valid. -/
def HostOpTablesOk : HostOp → Prop
  | .saveFactory f => TablesValid f.tables
  | _ => True

/-- The working tables are valid, and so is every copy on its way into the FACTORY region or VALID there (R162). -/
def TablesOk (s : State) : Prop :=
  TablesValid s.tables ∧ (s.store.factoryState = .valid → TablesValid s.store.factory.tables) ∧
    (∀ op, s.store.waiting = some op → HostOpTablesOk op) ∧
    ∀ op, s.store.running = some (.host op) → HostOpTablesOk op

/-! ## Gains -/

/-- The three gains of a channel lie in a range. -/
def PathGains.within (lo hi : Int) (g : PathGains) : Prop :=
  (lo ≤ g.prog ∧ g.prog ≤ hi) ∧ (lo ≤ g.slot1 ∧ g.slot1 ≤ hi) ∧ (lo ≤ g.slot2 ∧ g.slot2 ≤ hi)

/-- Every target lies between −480 and the ceiling its computation used, every such ceiling between −96 and +48, every
applied gain between −480 and +48 (R8, R41, R43, R50, R56). -/
def GainsOk (s : State) : Prop :=
  ∀ c, c < 24 →
    (-96 ≤ s.planner.readCeiling.getD c 0 ∧ s.planner.readCeiling.getD c 0 ≤ 48) ∧
      PathGains.within (-480) (s.planner.readCeiling.getD c 0) (s.planner.targets.getD c PathGains.mute) ∧
      PathGains.within (-480) 48 (s.ramp.applied.getD c PathGains.mute)

/-! ## Delay memory -/

/-- Every applied or pending delay lies from 0 to 960 (R16, R65), and every delay line is in the model's canonical form
(DESIGN CHOICE, log entry 22). -/
def LinesOk (s : State) : Prop :=
  (∀ l ∈ s.lines, l.wf = true ∧ l.applied ≤ 960) ∧ ∀ o ∈ s.output, ∀ d, o.pendingDelay = some d → d ≤ 960

end Sys2Proof
end

