-- ==== Sys2Proof/Certificates/Slice0/Obligations.lean ====
section
/-! DEFINITION. The statements for the provers. Every premise on the state is either an invariant of Sys2Proof/Safety.lean,
which the statements of the second group say that every step keeps, or a condition that the cited rule names. -/

open Sys2Proof Sys2Proof.Machine

/-! ## The machine -/

/-- One step takes the command at the front of the queue and runs it on the state with the rest of the queue; on an empty
queue the byte that waits longest on LINK_RX arrives, and where none waits the block idles (the model's choices, log entries 4
and 18). -/
def Obligations.StepTakesFrontCommand : Prop :=
  (∀ (c : Instr) (rest : List Instr) (s : State), s.pending = c :: rest → step s = exec c (s.withPending rest)) ∧
    (∀ (b : RxByte) (rest : List RxByte) (s : State), s.pending = [] → s.received = b :: rest →
      step s = receiveByte b (s.withReceived rest)) ∧
    ∀ s : State, s.pending = [] → s.received = [] → step s = .next s

/-- Every command answers a next state, in every state, and leaves the queue of commands and the waiting bytes alone. Held in
reset, the part takes no event: only the events of reset itself, and damage to the non-volatile store, have an effect then (R1,
R142, R177; log entry 17). -/
def Obligations.EveryCommandAnswersNext : Prop :=
  (∀ (c : Instr) (s : State), ∃ t, exec c s = .next t ∧ t.pending = s.pending ∧ t.received = s.received) ∧
    ∀ (c : Instr) (s : State), s.held = true → c ≠ .supplyCut → c ≠ .resetPin → c ≠ .powerLoss →
      (∀ h, c ≠ .resetRelease h) → (∀ i f, c ≠ .storedCopyDamaged i f) → exec c s = .next s

/-! ## Invariants that every step keeps -/

/-- The state right after reset meets every invariant of this group, the model's own form of delay lines among them (log entry
22). -/
def Obligations.ResetMeetsTheInvariants : Prop :=
  LinkOk State.reset.link ∧ ShapeOk State.reset ∧ TablesOk State.reset ∧ FadersOk State.reset ∧ ReasonsOk State.reset ∧
    Settled State.reset ∧ QueueOk State.reset ∧ ReadOk State.reset ∧ FaultOk State.reset ∧
    PatchesOk State.reset ∧ TrackerOk State.reset ∧ GainsOk State.reset ∧ LinesOk State.reset

/-- At most four replies wait, each notice kind waits at most once, and nothing waits at an idle transmitter (R179, R181,
R182). -/
def Obligations.LinkOrderKept : Prop := ∀ s t : State, LinkOk s.link → step s = .next t → LinkOk t.link

/-- The part keeps its 24 channels, 8 sections, 17 settings and 344 sets. -/
def Obligations.ShapeKept : Prop := ∀ s t : State, ShapeOk s → step s = .next t → ShapeOk t

/-- Every working table always meets its owner's constraints (R7 to R9, R32 to R34, R88, R111, R188). -/
def Obligations.TablesStayValid : Prop := ∀ s t : State, TablesOk s → step s = .next t → TablesOk t

/-- A fader is OPEN or OPENING exactly while its close-reason set is empty, its level stays in range, and a pending delay
keeps a reason present (R60, R68). -/
def Obligations.FadersFollowReasons : Prop :=
  ∀ s t : State, TablesOk s → FadersOk s → step s = .next t → FadersOk t

/-- SUPPLY stands, shown too, exactly while the monitor is not NORMAL, STARTUP exactly while the part is not RUNNING, DISABLED exactly
while CH_ROUTE has enabled no; in LOW and HIGH no run is open, elsewhere one holds at most two readings (R70, R135, R136, R140,
R174). -/
def Obligations.ReasonsFollowTheirOwners : Prop := ∀ s t : State, ReasonsOk s → step s = .next t → ReasonsOk t

/-- ACTIVE classes and ACTIVE slots hold each other, arbitration is always left with nothing more to do, and so no class is
PENDING while a slot is FREE (R113, R119, R132). -/
def Obligations.ArbitrationStaysSettled : Prop :=
  ∀ s t : State, Settled s → step s = .next t → Settled t ∧ NoneWaitsAtFreeSlot t.arbiter

/-- A set is in the restore queue exactly while it is SUSPECT, and at most once; a read that is not to be discarded
restores a RESTORING set (R152, R154). -/
def Obligations.RestoreQueueHoldsSuspects : Prop :=
  ∀ s t : State, QueueOk s → ReadOk s → step s = .next t → QueueOk t ∧ ReadOk t

/-- FAULT is in a channel's close-reason set exactly while one of its six fixed sets is not GOOD (R153). -/
def Obligations.FaultFollowsFixedSets : Prop :=
  ∀ s t : State, QueueOk s → ReadOk s → FaultOk s → step s = .next t → FaultOk t

/-- No patch list holds more than 16 records or two for one target (R169). -/
def Obligations.PatchListsStaySmall : Prop := ∀ s t : State, PatchesOk s → step s = .next t → PatchesOk t

/-- The nine values of the tracker stay in their ranges: Sf and the last sample at most 255, the stale counter 5000, the window
249 frames and 4095 pulses, both boosts 48, the bass offset 12; and its state is PULSE exactly while SPEED_SOURCE is PULSE (R71,
R73, R77, R90, R91). -/
def Obligations.TrackerStaysInRange : Prop :=
  ∀ s t : State, TablesOk s → TrackerOk s → step s = .next t → TrackerOk t

/-- Targets lie between −480 and the ceiling of their computation, applied gains between −480 and +48 (R41, R43, R50,
R56). -/
def Obligations.GainsStayInRange : Prop :=
  ∀ s t : State, TablesOk s → GainsOk s → step s = .next t → GainsOk t

/-- Every applied or pending delay lies from 0 to 960 (R16, R65). Delay lines keep the canonical form that the model gives them,
its own choice and no rule of the spec (DESIGN CHOICE, log entry 22). -/
def Obligations.DelayLinesStayInRange : Prop :=
  ∀ s t : State, TablesOk s → LinesOk s → step s = .next t → LinesOk t

/-! ## Settings and the gain plan -/

/-- An accepted SET places each of its values, clamped to its setting's range, in the pending scene, a later value for an id
before an earlier one, sets the commit mark unless it is held, and is answered OK or CLAMPED with the replaced pairs; a SET
that names an unknown id is refused whole (R22, R24, R27, R28, R31). -/
def Obligations.SetFillsPendingScene : Prop :=
  ∀ (tag hold : Byte) (pairs : List (Byte × Byte)) (s : State),
    Handles s → ShapeOk s → 1 ≤ pairs.length → pairs.length ≤ 17 →
    let ranges : List (Int × Int) :=
      [(0, 63), (0, 63), (-20, 20), (-20, 20), (-12, 12), (-12, 12), (-12, 12), (-12, 12), (0, 7), (0, 1), (0, 1), (0, 1),
       (0, 1), (0, 31), (0, 31), (0, 31), (0, 31)]
    let used (p : Byte × Byte) : Int :=
      let range := ranges.getD (p.1.toNat - 1) (0, 0)
      if p.2.toInt < range.1 then range.1 else if range.2 < p.2.toInt then range.2 else p.2.toInt
    ∃ t, exec (.set tag (hold :: pairs.flatMap fun p => [p.1, p.2])) s = .next t ∧
      if ∀ p ∈ pairs, 1 ≤ p.1.toNat ∧ p.1.toNat ≤ 17 then
        Only [.planner, .link, .draws] s t ∧
          t.planner = { s.planner with
            waiting := t.planner.waiting, commitMark := s.planner.commitMark || !lowBit hold } ∧
          t.planner.waiting.length = 17 ∧
          (∀ i, i < 17 → t.planner.waiting.getD i none =
            match pairs.reverse.find? fun p => p.1.toNat = i + 1 with
            | some p => some (used p)
            | none => s.planner.waiting.getD i none) ∧
          Replies s t 0x01 tag
            (if ∀ p ∈ pairs, used p = p.2.toInt then .ok else .clamped)
            ((pairs.filter fun p => used p ≠ p.2.toInt).flatMap fun p => [p.1, byteOf (used p)]) []
      else Refused s t 0x01 tag .badId

/-- COMMIT sets the commit mark if the pending scene holds an entry (R29); the commit taken with the mark set writes every
entry into the live scene at once, empties the pending scene and clears the mark, and a change of SDV_LEVEL recomputes the
tracker's values; with the mark clear nothing changes (R30, R92). -/
def Obligations.CommitTakesPendingScene : Prop :=
  (∀ (tag : Byte) (s : State), Handles s →
    ∃ t, exec (.commit tag []) s = .next t ∧ Only [.planner, .link, .draws] s t ∧
      t.planner = { s.planner with
        commitMark := s.planner.commitMark || s.planner.waiting.any Option.isSome } ∧
      Replies s t 0x02 tag .ok [] []) ∧
  ∀ s : State, Awake s → ShapeOk s →
    ∃ t, exec .commitTaken s = .next t ∧
      if s.planner.commitMark = true then
        Only [.planner, .tracker] s t ∧
          t.planner = { s.planner with
            live := t.planner.live, waiting := List.replicate 17 none, commitMark := false } ∧
          t.planner.live.length = 17 ∧
          (∀ i, i < 17 → t.planner.live.getD i 0 =
            (s.planner.waiting.getD i none).getD (s.planner.live.getD i 0)) ∧
          t.tracker = if t.planner.live.val .sdvLevel = s.planner.live.val .sdvLevel then s.tracker
            else derived s.tables t.planner.live s.tracker
      else t = s

/-- The planner's boundary takes the commit first; every target, tone step, source and leg is then computed from the state
that the commit leaves (R12, R25, R30, R45, R46; the rows: log entry 1). -/
def Obligations.PlannerBoundaryFollowsCommit : Prop :=
  ∀ s : State, Awake s →
    ∃ u t, exec .commitTaken s = .next u ∧ exec .plannerBoundary s = .next t ∧ Only [.planner, .mixer] u t ∧
      t.planner = { u.planner with
        targets := t.planner.targets, tone := t.planner.tone, readCeiling := t.planner.readCeiling } ∧
      (t.planner.targets.length = 24 ∧ t.planner.tone.length = 24 ∧ t.planner.readCeiling.length = 24 ∧
        t.mixer.length = 24) ∧
      ∀ c, c < 24 →
        let live := u.planner.live
        let r := u.tables.routeOf c
        let rear := live.val .zoneMode = 1 ∧ r.zone = .rear
        t.planner.targets.getD c PathGains.mute = ⟨progTarget u c, slotTarget u .slot1 c, slotTarget u .slot2 c⟩ ∧
          t.planner.tone.getD c ⟨0, 0⟩ =
            ⟨max (-12) (min 12 ((if rear then live.val .bassRear else live.val .bass) + u.tracker.bassOffset)),
              max (-12) (min 12 (if rear then live.val .trebleRear else live.val .treble))⟩ ∧
          t.planner.readCeiling.getD c 0 = u.tables.ceiling.getD c 0 ∧
          t.mixer.getD c MixChan.reset = ⟨if rear then .progB else .progA, r.leg⟩

/-- The programme target: the mute value at volume 0, under mute or at a table value of −480; otherwise
Gv − ab − af + b − d + t, limited by the ceiling and then by the floor, with the boost b under the knee and d the largest
duck of an ACTIVE class that reaches a seat of the channel (R25, R26, R36 to R41). -/
def Obligations.ProgrammeTargetRule : Prop :=
  ∀ (s : State) (c : Nat),
    let live := s.planner.live
    let r := s.tables.routeOf c
    let apart := live.val .zoneMode = 1
    let rear := apart ∧ r.zone = .rear
    let v := if rear then live.val .volRear else live.val .volFront
    let mute := if rear then live.val .muteRear else live.val .muteFront
    let gv := s.tables.volume.getD v.toNat (-480)
    let reaches (k : AnnClass) := ∃ seats, activeSeats s k = some seats ∧ seats.meet r.seats = true
    ((v = 0 ∨ mute = 1 ∨ gv = -480) → progTarget s c = -480) ∧
    (v ≠ 0 → mute ≠ 1 → gv ≠ -480 →
      let b := live.val .balance
      let f := if apart then 0 else live.val .fade
      let ab := if r.exempt = true ∨ b = 0 then 0
        else if r.side = .centre then s.tables.balance.getD b.natAbs 0 / 2
        else if (r.side = .left ∧ 0 < b) ∨ (r.side = .right ∧ b < 0) then s.tables.balance.getD b.natAbs 0 else 0
      let af := if r.exempt = true ∨ f = 0 then 0
        else if r.row = .mid then s.tables.fade.getD f.natAbs 0 / 2
        else if (r.row = .back ∧ 0 < f) ∨ (r.row = .front ∧ f < 0) then s.tables.fade.getD f.natAbs 0 else 0
      let boost := min ((s.tracker.scaledBoost : Int) * s.tables.sdvWeight.getD c 0 / 16)
        (max 0 (s.tables.global .sdvKnee - gv))
      ∃ d : Nat, (∀ k, reaches k → (s.tables.classEntry k).duck ≤ d) ∧
        (d = 0 ∨ ∃ k, reaches k ∧ d = (s.tables.classEntry k).duck) ∧
        progTarget s c = max (-480)
          (min (s.tables.ceiling.getD c 0) (gv - ab - af + boost - d + s.tables.trim.getD c 0)))

/-- The slot target: ANN_VOLUME + trim + boost share, limited by the ceiling and then by the floor, where the slot is ACTIVE
with a class that reaches a seat of the channel at an announcement volume above 0, and otherwise the mute value; it does not
depend on volume, mute, balance, fade, tone or ZONE_MODE (R42, R43). -/
def Obligations.SlotTargetRule : Prop :=
  (∀ (s : State) (k : Slot) (c : Nat),
    match s.arbiter.slots.get k with
    | .active x =>
      let roles := (s.arbiter.classes.get x).roles
      let left := s.planner.live.val .driverSide ≠ 1
      let seats : Seats := ⟨if left then roles.driver else roles.codriver, if left then roles.codriver else roles.driver,
        roles.rearLeft, roles.rearRight⟩
      let vol := s.planner.live.val x.volume
      slotTarget s k c = if seats.meet (s.tables.routeOf c).seats = true ∧ 0 < vol then
          max (-480) (min (s.tables.ceiling.getD c 0) (s.tables.annVolume.getD vol.toNat (-480) +
            s.tables.annTrim.getD c 0 + (s.tracker.scaledBoost : Int) * s.tables.sdvWeight.getD c 0 / 16))
        else -480
    | _ => slotTarget s k c = -480) ∧
  ∀ (s t : State) (k : Slot) (c : Nat),
    t.tables = s.tables → t.arbiter = s.arbiter → t.tracker.scaledBoost = s.tracker.scaledBoost →
    t.planner.live.val .driverSide = s.planner.live.val .driverSide →
    (∀ x : AnnClass, t.planner.live.val x.volume = s.planner.live.val x.volume) →
    slotTarget t k c = slotTarget s k c

/-! ## Ramps, faders, delays -/

/-- Adding or removing a close reason changes that reason alone and moves no level: an OPEN or OPENING fader whose set was
empty becomes CLOSING, a CLOSED or CLOSING fader whose last reason goes becomes OPENING, and with a delay pending DELAY takes
the place of the last reason (R60, R61, R62, R68). -/
def Obligations.ReasonsMoveFaders : Prop :=
  ∀ (x : Reason) (o : OutChan),
    (o.addReason x = { o with fader := { o.fader with
        reasons := o.fader.reasons.put x true
        state := if o.fader.reasons = ⟨false, false, false, false, false⟩ ∧ (o.fader.state = .opened ∨ o.fader.state = .opening)
          then .closing else o.fader.state } }) ∧
    (o.fader.reasons.has x = false → o.removeReason x = o) ∧
    (o.fader.reasons.has x = true →
      let last := o.fader.reasons.put x false = ⟨false, false, false, false, false⟩
      o.removeReason x = { o with fader := { o.fader with
        reasons := if last ∧ o.pendingDelay ≠ none then (o.fader.reasons.put x false).put .delay true
          else o.fader.reasons.put x false
        state := if last ∧ o.pendingDelay = none ∧ (o.fader.state = .closed ∨ o.fader.state = .closing)
          then .opening else o.fader.state } })

/-- A ramp step of a path, by the two numbers that decide it; ramp steps toward a fixed target never pass it and reach it, at
the latest after as many steps as there are qdB between (R54, R55). -/
def Obligations.RampReachesTarget : Prop :=
  ∀ a target slew : Int, 1 ≤ slew → -480 ≤ a → -480 ≤ target →
    (a < target → rampPath a target slew = if a = -480 then min target (-240) else min target (a + slew)) ∧
    (target < a → rampPath a target slew =
      if target = -480 then (if a - slew ≤ -240 then -480 else a - slew) else max target (a - slew)) ∧
    (∀ n : Nat, let x := (fun g => rampPath g target slew)^[n] a
      (a ≤ target → a ≤ x ∧ x ≤ target) ∧ (target ≤ a → target ≤ x ∧ x ≤ a)) ∧
    (fun g => rampPath g target slew)^[(target - a).natAbs] a = target

/-- The ramp unit's boundary clamps every applied gain to its ceiling, advances the divider, and where a ramp step is due moves
every path and every opening fader; it leaves every applied gain between −480 and its channel's ceiling; it hands the drain of a
DRAINING slot whose 24 gains stand at −480. RAMP_STEP is that event at a boundary whose step is due, and no event at another
(R52, R53, R54, R55, R56, R57, R64; the rows: log entries 1 and 2; the faders that a QUERY shows, R59: log entry 14). -/
def Obligations.RampBoundaryMovesGains : Prop :=
  ∀ s : State, Awake s →
    let due := (s.ramp.divider : Int) = s.tables.global .rampDivider
    ∃ t, exec .rampBoundary s = .next t ∧ Only [.ramp, .output] s t ∧
      (due → exec .rampStep s = .next t) ∧ (¬due → exec .rampStep s = .next s) ∧
      t.ramp.divider = (if due then 0 else s.ramp.divider + 1) ∧ t.ramp.applied.length = 24 ∧
      (∀ c, c < 24 →
        let ceiling := s.planner.readCeiling.getD c 0
        let a := s.ramp.applied.getD c PathGains.mute
        let g := s.planner.targets.getD c PathGains.mute
        t.ramp.applied.getD c PathGains.mute = if due then
            ⟨rampPath (min ceiling a.prog) g.prog (s.tables.global .progSlew),
              rampPath (min ceiling a.slot1) g.slot1 (s.tables.global .annSlew),
              rampPath (min ceiling a.slot2) g.slot2 (s.tables.global .annSlew)⟩
          else ⟨min ceiling a.prog, min ceiling a.slot1, min ceiling a.slot2⟩) ∧
      (TablesOk s → GainsOk s → ∀ c, c < 24 → PathGains.within (-480) (s.planner.readCeiling.getD c 0)
        (t.ramp.applied.getD c PathGains.mute)) ∧
      (∀ k : Slot, t.ramp.handed.get k = true ↔ s.ramp.handed.get k = true ∨
        s.arbiter.slots.get k = .draining ∧ ∀ c, c < 24 → (t.ramp.applied.getD c PathGains.mute).slot k = -480) ∧
      t.output = s.output.map fun o =>
        if due ∧ o.fader.state = .opening then
          let level := if o.fader.level = -480 then -240 else min 0 (o.fader.level + s.tables.global .progSlew)
          let f := { o.fader with level := level, state := if level = 0 then .opened else .opening }
          { o with fader := f, shown := f }
        else o

/-- The output stage's boundary: closing faders fall by FAST_SLEW and close at −240; the polarity is taken; clip marks are
counted, join the clip set and post CLIP, which an idle transmitter begins at once and which empties the set; a delay pending
behind a CLOSED fader goes in and DELAY is removed; the faders so left are those that R59 shows (R5, R17, R20, R21, R59, R62,
R63, R67; log entry 14). -/
def Obligations.OutputBoundaryClosesAndCounts : Prop :=
  ∀ s : State, Awake s → ShapeOk s →
    ∃ t, exec .outputStageStep s = .next t ∧ Only [.output, .lines, .link] s t ∧
      (∀ c, c < 24 →
        let o := s.outChan c
        let p := t.outChan c
        let fell := o.fader.level - s.tables.global .fastSlew
        let shuts := o.fader.state = .closing ∧ fell ≤ -240
        p.fader.level = (if shuts then -480 else if o.fader.state = .closing then fell else o.fader.level) ∧
          p.polarity = (s.tables.routeOf c).polarity ∧ p.clipMark = false ∧ p.shown = p.fader ∧
          p.clipCount = (if o.clipMark then min 65535 (o.clipCount + 1) else o.clipCount) ∧
          match o.pendingDelay with
          | some d =>
            if shuts ∨ o.fader.state = .closed then
              t.line c = ⟨d, []⟩ ∧ p.pendingDelay = none ∧
                p.fader.reasons = { o.fader.reasons with delay := false } ∧
                p.fader.state = if o.fader.reasons = ⟨false, false, false, true, false⟩ then .opening else .closed
            else t.line c = s.line c ∧ p.pendingDelay = some d ∧ p.fader.reasons = o.fader.reasons ∧
              p.fader.state = o.fader.state
          | none => t.line c = s.line c ∧ p.pendingDelay = none ∧ p.fader.reasons = o.fader.reasons ∧
              p.fader.state = if shuts then .closed else o.fader.state) ∧
      let inSet (c : Nat) := (s.outChan c).inClipSet || (s.outChan c).clipMark
      if ∀ c ∈ List.range 24, (s.outChan c).clipMark = false then
        t.link = s.link ∧ ∀ c, c < 24 → (t.outChan c).inClipSet = (s.outChan c).inClipSet
      else if s.link.tx = none then
        t.link = { s.link with tx := some ⟨0x46, 0, (List.range 3).map fun k =>
          marksByte ((List.range 8).map fun n => inSet (8 * k + n))⟩ } ∧
          ∀ c, c < 24 → (t.outChan c).inClipSet = false
      else
        t.link = { s.link with notices := s.link.notices ++ [Notice.clip].filter fun n => n ∉ s.link.notices } ∧
          ∀ c, c < 24 → (t.outChan c).inClipSet = inSet c

/-- A delay that is pending behind a CLOSED fader is applied: the line is cleared and takes it, and DELAY is removed, which
opens the fader if it was the last reason; every other channel is left alone (R16, R17, R59, R67; log entry 14). -/
def Obligations.DelayGoesInBehindClosedFader : Prop :=
  ∀ s : State, Awake s → ShapeOk s →
    ∃ t, exec .applyDelay s = .next t ∧ Only [.output, .lines] s t ∧
      ∀ c, c < 24 →
        let o := s.outChan c
        match (if o.fader.state = .closed then o.pendingDelay else none) with
        | some d =>
          let f := { o.fader with
            reasons := { o.fader.reasons with delay := false }
            state := if o.fader.reasons = ⟨false, false, false, true, false⟩ then .opening else .closed }
          t.line c = ⟨d, []⟩ ∧ t.outChan c = { o with pendingDelay := none, fader := f, shown := f }
        | none => t.line c = s.line c ∧ t.outChan c = o

/-! ## Speed -/

/-- SPEED: answered WRONG_SOURCE under PULSE; an invalid report is counted and nothing else; a valid report zeroes the stale
counter, makes STALE FRESH with its notice, and passes its sample through the hysteresis filter, a change of Sf recomputing
the derived values (R74, R75, R76, R79, R85, R92). -/
def Obligations.SpeedReportRule : Prop :=
  ∀ (tag hi lo valid : Byte) (s : State), Handles s →
    ∃ t, exec (.speed tag [hi, lo, valid]) s = .next t ∧
      if s.tables.global .speedSource = 1 then Refused s t 0x04 tag .wrongSource
      else if valid.getLsbD 0 = false then
        Only [.link, .draws] s t ∧
          Sends { afterFrame s.link with invalidReports := min 65535 (s.link.invalidReports + 1) } t
            [replyFrame 0x04 tag .ok []] []
      else
        let sample := min 255 ((hi.toNat * 256 + lo.toNat) / 100)
        let sf := if sample = 0 ∨ s.tables.global .speedHyst ≤ ((sample : Int) - s.tracker.sf).natAbs then sample
          else s.tracker.sf
        let m := { s.tracker with
          staleCount := 0, state := if s.tracker.state = .stale then .fresh else s.tracker.state
          lastSample := sample, sf := sf }
        Only [.tracker, .link, .draws] s t ∧
          t.tracker = (if sf = s.tracker.sf then m else derived s.tables s.planner.live m) ∧
          Replies s t 0x04 tag .ok [] (if s.tracker.state = .stale then [.speedState] else [])

/-- The tracker at a frame boundary: FRESH counts toward STALE, PULSE counts its window and takes the window's sample at its
end; STALE_TIMEOUT and WINDOW_END are those parts alone; a transition of WHEEL_PULSE counts under PULSE in the direction of
PULSE_EDGE, up to 4095 (R77, R80, R81, R85; the rows: log entries 1 and 2). -/
def Obligations.TrackerBoundaryRule : Prop :=
  (∀ s : State, Awake s →
    ∃ t, exec .speedTrackerBoundary s = .next t ∧ Only [.tracker, .link] s t ∧
      match s.tracker.state with
      | .fresh =>
        let late := s.tables.global .staleTime * 100 ≤ s.tracker.staleCount + 1
        t.tracker = { s.tracker with
            staleCount := s.tracker.staleCount + 1, state := if late then .stale else .fresh } ∧
          Sends s.link t [] (if late then [.speedState] else [])
      | .stale => t = s
      | .pulse => t.link = s.link ∧
        if 250 ≤ s.tracker.windowFrames + 1 then
          exec .windowEnd s = .next t ∧
          let sample := min 255 (s.tracker.windowPulses * 14400 / (s.tables.global .pulseConst).toNat)
          let sf := if sample = 0 ∨ s.tables.global .speedHyst ≤ ((sample : Int) - s.tracker.sf).natAbs then sample
            else s.tracker.sf
          let m := { s.tracker with windowPulses := 0, windowFrames := 0, lastSample := sample, sf := sf }
          t.tracker = if sf = s.tracker.sf then m else derived s.tables s.planner.live m
        else exec .windowEnd s = .next s ∧
          t.tracker = { s.tracker with windowFrames := s.tracker.windowFrames + 1 }) ∧
  (∀ s : State, Awake s →
    ∃ t, exec .staleTimeout s = .next t ∧
      if s.tracker.state = .fresh ∧ s.tables.global .staleTime * 100 ≤ s.tracker.staleCount then
        Only [.tracker, .link] s t ∧ t.tracker = { s.tracker with state := .stale } ∧ Sends s.link t [] [.speedState]
      else t = s) ∧
  ∀ (e : Edge) (s : State), Awake s →
    exec (.pulseCounted e) s = .next
      (if s.tables.global .speedSource = 1 ∧ (e = .falling ↔ s.tables.global .pulseEdge = 1) then
        s.withTracker { s.tracker with windowPulses := min 4095 (s.tracker.windowPulses + 1) }
      else s)

/-- Over breakpoints that rise as R88 asks, the boost equals each breakpoint's own at its speed, never falls as the speed
rises, and stays at or below any bound on the breakpoints' boosts (R89). -/
def Obligations.CurveNeverFalls : Prop :=
  ∀ points : List (Nat × Nat), pointsRise points = true →
    (∀ p ∈ points, curveBoost p.1 points = p.2) ∧
      (∀ v w, v ≤ w → curveBoost v points ≤ curveBoost w points) ∧
      ∀ v bound, (∀ p ∈ points, p.2 ≤ bound) → curveBoost v points ≤ bound

/-! ## Announcements -/

/-- ANN_START: refused for an unknown class or an empty role set; for an IDLE class the class is granted the first FREE slot in
the same event, and waits PENDING where no slot is FREE (whom it then pre-empts: AnnStartPreemptsLowerLevel); for another
class only the roles change (R115, R116, R117, R118, R120). -/
def Obligations.AnnStartTakesFreeSlot : Prop :=
  ∀ (tag code marks : Byte) (s : State), Handles s → Settled s →
    let roles : Roles := ⟨marks.getLsbD 0, marks.getLsbD 1, marks.getLsbD 2, marks.getLsbD 3⟩
    let a := s.arbiter
    ∃ t, exec (.annStart tag [code, marks]) s = .next t ∧
      match [AnnClass.alert, .park, .phone, .nav][code.toNat]? with
      | none => Refused s t 0x05 tag .badId
      | some k =>
        if roles = ⟨false, false, false, false⟩ then Refused s t 0x05 tag .badRange
        else
          let r := a.classes.get k
          Only [.arbiter, .link, .draws] s t ∧
          if r.state = .idle then
            Replies s t 0x05 tag .ok [] [.annState] ∧
            if a.slots.slot1 = .free then
              t.arbiter = ⟨a.classes.put k ⟨.active .slot1, roles, .none, 0⟩, a.slots.put .slot1 (.active k)⟩
            else if a.slots.slot2 = .free then
              t.arbiter = ⟨a.classes.put k ⟨.active .slot2, roles, .none, 0⟩, a.slots.put .slot2 (.active k)⟩
            else t.arbiter.classes.get k = ⟨.pending, roles, .none, 0⟩
          else
            t.arbiter = ⟨a.classes.put k { r with roles := roles }, a.slots⟩ ∧
              Replies s t 0x05 tag .ok [] (if roles = r.roles then [] else [.annState])

/-- ANN_START with no slot FREE: the started class waits with those that wait already. As many waiting classes as slots are
DRAINING, the highest-ranked, are set aside; the next one pre-empts the lowest-ranked ACTIVE class exactly if its level is
strictly higher. The victim's slot drains, and the victim waits or ends PREEMPTED as its resume field says; nothing else
changes (R114, R119, R121, R122). -/
def Obligations.AnnStartPreemptsLowerLevel : Prop :=
  ∀ (tag marks : Byte) (k : AnnClass) (s : State), Handles s → Settled s →
    (marks.getLsbD 0 || marks.getLsbD 1 || marks.getLsbD 2 || marks.getLsbD 3) = true →
    s.arbiter.slots.slot1 ≠ .free → s.arbiter.slots.slot2 ≠ .free → (s.arbiter.classes.get k).state = .idle →
    let level (j : AnnClass) := (s.tables.classEntry j).level
    let above (i j : AnnClass) := level j < level i ∨ level i = level j ∧ i.code < j.code
    let started := s.arbiter.classes.put k ⟨.pending, Roles.ofByte marks, .none, 0⟩
    let waiting (j : AnnClass) := (started.get j).state = .pending
    let draining := [s.arbiter.slots.slot1, s.arbiter.slots.slot2].countP fun x => x = .draining
    let next (i : AnnClass) := waiting i ∧
      [AnnClass.alert, .park, .phone, .nav].countP (fun j => waiting j ∧ above j i) = draining
    let lowest (x : AnnClass) (slot : Slot) := (started.get x).state = .active slot ∧
      ∀ y slot', (started.get y).state = .active slot' → y ≠ x → above y x
    ∃ t, exec (.annStart tag [byteOf k.code, marks]) s = .next t ∧ Only [.arbiter, .link, .draws] s t ∧
      Replies s t 0x05 tag .ok [] [.annState] ∧
      (∀ i x slot, next i → lowest x slot → level x < level i →
        let r := started.get x
        t.arbiter = ⟨started.put x (if (s.tables.classEntry x).resume = true then { r with state := .pending }
          else { r with state := .idle, lastEnd := .preempted }), s.arbiter.slots.put slot .draining⟩) ∧
      ((∀ i x slot, next i → lowest x slot → ¬level x < level i) → t.arbiter = ⟨started, s.arbiter.slots⟩)

/-- Over records that match, arbitration ends: it leaves records that match, no class PENDING while a slot is FREE, and nothing
for a second arbitration to do (R113, R119). -/
def Obligations.ArbitrationEnds : Prop :=
  ∀ (t : Tables) (a : Arbiter), SlotsMatch a →
    SlotsMatch (arbitrated t a) ∧ NoneWaitsAtFreeSlot (arbitrated t a) ∧
      arbitrated t (arbitrated t a) = arbitrated t a

/-- ANN_END: an ACTIVE class ends FINISHED and its slot drains, a PENDING class is WITHDRAWN, an IDLE class is answered LATE
where the part ended it and NOT_ACTIVE otherwise (R124). -/
def Obligations.AnnEndRule : Prop :=
  ∀ (tag code : Byte) (s : State), Handles s →
    let a := s.arbiter
    ∃ t, exec (.annEnd tag [code]) s = .next t ∧
      match [AnnClass.alert, .park, .phone, .nav][code.toNat]? with
      | none => Refused s t 0x06 tag .badId
      | some k =>
        let r := a.classes.get k
        match r.state with
        | .active slot =>
          Only [.arbiter, .link, .draws] s t ∧
            t.arbiter = ⟨a.classes.put k { r with state := .idle, lastEnd := .finished }, a.slots.put slot .draining⟩ ∧
            Replies s t 0x06 tag .ok [] [.annState]
        | .pending =>
          Only [.arbiter, .link, .draws] s t ∧
            t.arbiter = ⟨a.classes.put k { r with state := .idle, lastEnd := .withdrawn }, a.slots⟩ ∧
            Replies s t 0x06 tag .ok [] [.annState]
        | .idle => Refused s t 0x06 tag (if r.lastEnd = .expired ∨ r.lastEnd = .preempted then .late else .notActive)

/-- A drain completion that the ramp unit has handed frees its DRAINING slot, and the highest-ranked PENDING class, if one
waits, is granted it in the same event with its timer at 0 (R58, R114, R120, R123); a DRAIN_COMPLETION that was not handed
leaves the state as it is (DEDUCED, log entry 26). -/
def Obligations.DrainCompletionGrants : Prop :=
  ∀ (slot : Slot) (s : State), Awake s → Settled s →
    let a := s.arbiter
    let level (j : AnnClass) := (s.tables.classEntry j).level
    ∃ t, exec (.drainCompletion slot) s = .next t ∧
      if s.ramp.handed.get slot = true then
        Only [.ramp, .arbiter, .link] s t ∧
        t.ramp = { s.ramp with handed := s.ramp.handed.put slot false } ∧
        if a.slots.get slot = .draining then
          Sends s.link t [] [.annState] ∧
          ((∀ j, (a.classes.get j).state ≠ .pending) → t.arbiter = ⟨a.classes, a.slots.put slot .free⟩) ∧
          ∀ k, (a.classes.get k).state = .pending →
            (∀ j, (a.classes.get j).state = .pending → j ≠ k →
              level j < level k ∨ level k = level j ∧ k.code < j.code) →
            t.arbiter = ⟨a.classes.put k { a.classes.get k with state := .active slot, timer := 0 },
              a.slots.put slot (.active k)⟩
        else t.arbiter = a ∧ t.link = s.link
      else t = s

/-- The arbiter's boundary adds 1 to the timer of every ACTIVE class, up to 255 000, and then expires every ACTIVE class whose
timer has reached its limit: the class ends EXPIRED and its slot drains. EXPIRY is the comparison alone (R125, R126; the rows:
log entry 1). -/
def Obligations.TimersExpireClasses : Prop :=
  ∀ (c : Instr) (next : Nat → Nat) (s : State), Awake s → Settled s →
    (c = .arbiterBoundary ∧ next = fun n => min 255000 (n + 1)) ∨ (c = .expiry ∧ next = fun n => n) →
    let a := s.arbiter
    let timer (k : AnnClass) := next (a.classes.get k).timer
    let due (k : AnnClass) := (s.tables.classEntry k).maxDuration ≠ 0 ∧
      (s.tables.classEntry k).maxDuration * 1000 ≤ timer k
    ∃ t, exec c s = .next t ∧ Only [.arbiter, .link] s t ∧
      (∀ k, t.arbiter.classes.get k =
        match (a.classes.get k).state with
        | .active _ =>
          if due k then { a.classes.get k with state := .idle, lastEnd := .expired, timer := timer k }
          else { a.classes.get k with timer := timer k }
        | _ => a.classes.get k) ∧
      (∀ slot, t.arbiter.slots.get slot =
        match a.slots.get slot with
        | .active k => if due k then .draining else .active k
        | x => x) ∧
      ((∃ k slot, (a.classes.get k).state = .active slot ∧ due k) → Sends s.link t [] [.annState]) ∧
      ((∀ k slot, (a.classes.get k).state = .active slot → ¬due k) → t.link = s.link)

/-! ## Supply -/

/-- One reading: debounce, state change, settle counter, SUPPLY on every channel, SUPPLY_STATE (R133, R136, R137, R138, R139,
R140, R145, R146; that a reading to or from NORMAL copies the record a QUERY shows: log entry 14). -/
def Obligations.SupplyReadingRule : Prop :=
  ∀ (millivolts : Nat) (s : State), Awake s →
    let u := min 255 (millivolts / 100)
    let shows : OutChan → OutChan := fun o => { o with shown := o.fader }
    let m := s.supply
    let side : RunSide := if (u : Int) < s.tables.global .lowEnter then .low
      else if s.tables.global .highEnter < (u : Int) then .high else .none
    let count := if side = .none then 0 else if m.side = side then m.count + 1 else 1
    let entered : MonitorState := if side = .low then .low else .high
    let length := if s.tables.global .settle = 1 then 400 else 50
    ∃ t, exec (.supplyReading millivolts) s = .next t ∧ Only [.supply, .output, .link] s t ∧
      t.supply = (match m.state with
        | .normal => if 3 ≤ count then ⟨entered, .none, 0, m.settle, u⟩ else ⟨.normal, side, count, m.settle, u⟩
        | .settling => if 3 ≤ count then ⟨entered, .none, 0, m.settle, u⟩
          else ⟨if length ≤ m.settle + 1 then .normal else .settling, side, count, m.settle + 1, u⟩
        | .low => if s.tables.global .lowLeave ≤ (u : Int) then ⟨.settling, side, count, 0, u⟩ else { m with reading := u }
        | .high => if (u : Int) ≤ s.tables.global .highLeave then ⟨.settling, side, count, 0, u⟩
          else { m with reading := u }) ∧
      t.output = (if t.supply.state = m.state then s.output
        else if t.supply.state = .normal then s.output.map fun o => shows (o.removeReason .supply)
        else if m.state = .normal then s.output.map fun o => shows (o.addReason .supply)
        else s.output.map (OutChan.addReason .supply)) ∧
      Sends s.link t [] (if t.supply.state = m.state then [] else [.supplyState])

/-- RUN_COMPLETE is a reading that completes a run of three, and SETTLE_COMPLETE one that completes the settle time: each does
what that reading does, and a reading that is not one is no such event (R136, R137, R139; the rows: log entries 1 and 2). -/
def Obligations.RunAndSettleCompletions : Prop :=
  ∀ (millivolts : Nat) (s : State), Awake s →
    ∃ t, exec (.supplyReading millivolts) s = .next t ∧
      exec (.runComplete millivolts) s = .next
        (if (s.supply.state = .normal ∨ s.supply.state = .settling) ∧
            (t.supply.state = .low ∨ t.supply.state = .high) then t else s) ∧
      exec (.settleComplete millivolts) s = .next
        (if s.supply.state = .settling ∧ t.supply.state = .normal then t else s)

/-! ## Coefficient integrity and the equaliser -/

/-- UPSET changes the words and the check bits of one set and nothing else, its state included; STORED_COPY_DAMAGED changes the
stored copy of one set, whose stored words and check bits then disagree, and nothing else; a BLANK region holds no copy (R147
and the row's own words). -/
def Obligations.UpsetsTouchOneSet : Prop :=
  (∀ (i : Fin 344) (flips : Words) (checkFlips : Nat) (s : State), Awake s → ShapeOk s →
    let e := s.coeffSet i
    exec (.upset i flips checkFlips) s = .next (s.withIntegrity { s.integrity with
      sets := s.integrity.sets.set i { e with
        words := ⟨e.words.b0 ^^^ flips.b0, e.words.b1 ^^^ flips.b1, e.words.b2 ^^^ flips.b2, e.words.a1 ^^^ flips.a1,
          e.words.a2 ^^^ flips.a2⟩
        checkFlips := e.checkFlips ^^^ checkFlips } })) ∧
  ∀ (i : Fin 344) (flips : Words) (s : State), ShapeOk s →
    ∃ t, exec (.storedCopyDamaged i flips) s = .next t ∧ Only [.store] s t ∧
      if s.store.factoryState = .blank then t = s
      else
        t.store = { s.store with factory := { s.store.factory with sets := t.store.factory.sets } } ∧
          t.store.factory.sets.length = 344 ∧
          ∀ j, j < 344 → t.store.factory.sets[j]? = if j = i then
              (s.store.factory.sets[j]?).map fun e => ⟨flipWords e.words flips, false⟩
            else s.store.factory.sets[j]?

/-- The scanner checks the set at its position and moves on. A GOOD set whose check fails becomes SUSPECT, is queued, adds FAULT
to the channel of a fixed set, and is recorded and announced; an upset of one or two bits in a GOOD set with agreeing check
bits is so found (R147, R150, R151; a boundary's FAULT is one that R59 shows: log entry 14). -/
def Obligations.ScannerFindsUpsets : Prop :=
  (∀ s : State, Awake s → ShapeOk s →
    let i := s.integrity.scanPos
    let e := s.coeffSet i
    let next := if i < 343 then i + 1 else 0
    ∃ t, exec .scannerCheck s = .next t ∧ Only [.integrity, .output, .link] s t ∧
      if e.state = .good ∧ checkPasses e = false then
        t.integrity = { s.integrity with
            sets := s.integrity.sets.set i { e with state := .suspect }, queue := s.integrity.queue ++ [i]
            scanPos := next, last := some ⟨i, .suspect, false⟩ } ∧
          t.output = (if i < 144 then (s.output.modify (i / 6) fun o => (o.addReason .fault).show) else s.output) ∧
          Sends s.link t [] [.coeffState]
      else t = s.withIntegrity { s.integrity with scanPos := next }) ∧
  ∀ (i : Fin 344) (flips : Words) (checkFlips : Nat) (s : State), Awake s → ShapeOk s →
    s.integrity.scanPos = i → (s.coeffSet i).state = .good → (s.coeffSet i).words = (s.coeffSet i).placed →
    (s.coeffSet i).checkFlips = 0 →
    1 ≤ wordsDistance flips ⟨0, 0, 0, 0, 0⟩ + popcount checkFlips →
    wordsDistance flips ⟨0, 0, 0, 0, 0⟩ + popcount checkFlips ≤ 2 →
    ∃ u t, exec (.upset i flips checkFlips) s = .next u ∧ (u.coeffSet i).state = .good ∧
      exec .scannerCheck u = .next t ∧ (t.coeffSet i).state = .suspect

/-- The EQ engine's boundary: every section selects its set, is bypassed exactly while that set is not GOOD, has its history
cleared where the bypass changes, and otherwise reads the set's words; every GOOD set that a section reads and whose check
fails becomes SUSPECT, is queued once and adds FAULT for a fixed set (R97, R100, R103, R105, R106, R107, R149,
R151; a boundary's FAULT is one that R59 shows: log entry 14). -/
def Obligations.EqBoundarySelectsAndChecks : Prop :=
  ∀ s : State, Awake s → ShapeOk s →
    ∃ t, exec .eqBoundary s = .next t ∧ Only [.eq, .integrity, .output, .link] s t ∧
      (∀ (c k : Nat) (e : EqSection), (s.eq.getD c [])[k]? = some e →
        let g := (s.tables.routeOf c).toneGroup
        let tone := s.planner.tone.getD c ⟨0, 0⟩
        let i := if k < 6 then 6 * c + k
          else if k = 6 then 144 + (25 * g + (tone.bass + 12).toNat) else 244 + (25 * g + (tone.treble + 12).toNat)
        let out := decide ((s.coeffSet i).state ≠ .good)
        let kept := if out = e.bypass then e else { e with x1 := 0, x2 := 0, y1 := 0, y2 := 0 }
        (t.eq.getD c [])[k]? = some { kept with
          selected := i, bypass := out, words := if out = true then e.words else (s.coeffSet i).words }) ∧
      ∃ found : List Nat, found.Nodup ∧
        (∀ i, i ∈ found ↔ i < 344 ∧ (s.coeffSet i).state = .good ∧ checkPasses (s.coeffSet i) = false ∧
          ∃ (c k : Nat) (e : EqSection), (t.eq.getD c [])[k]? = some e ∧ e.bypass = false ∧ e.selected = i) ∧
        t.integrity.queue = s.integrity.queue ++ found ∧
        (∀ i, i < 344 → t.coeffSet i =
          if i ∈ found then { s.coeffSet i with state := .suspect } else s.coeffSet i) ∧
        (∀ c, c < 24 → t.outChan c =
          if ∃ i ∈ found, i < 144 ∧ i / 6 = c then ((s.outChan c).addReason .fault).show else s.outChan c) ∧
        t.integrity.last = (match found.getLast? with
          | some i => some ⟨i, .suspect, false⟩
          | none => s.integrity.last) ∧
        Sends s.link t [] (if found = [] then [] else [.coeffState])

/-- READ_SET_BEGIN at a free controller takes the set at the head of the restore queue: RESTORING, its read in progress with the
stored copy where the region is VALID and the copy passes its check; HOST_OPERATION_BEGIN begins the waiting host operation
where the controller is free and no read waits; elsewhere neither is an event (R154, R160, R165; log entries 2
and 20; the copy taken when the read begins: log entry 11, DEDUCED). -/
def Obligations.StoreOperationsBegin : Prop :=
  ∀ s : State, Awake s → QueueOk s →
    (∃ t, exec .readSetBegin s = .next t ∧
      match s.integrity.queue with
      | [] => t = s
      | i :: rest =>
        if s.store.running = none ∧ s.read = none then
          let copy := s.store.factory.sets.getD i ⟨passThrough, false⟩
          Only [.integrity, .read, .store, .link] s t ∧
            t.integrity = { s.integrity with
              sets := s.integrity.sets.set i { s.coeffSet i with state := .restoring }, queue := rest
              last := some ⟨i, .restoring, false⟩ } ∧
            t.read = some ⟨i, false,
              if s.store.factoryState = .valid ∧ copy.checkOk = true then some copy.words else none⟩ ∧
            t.store = { s.store with running := some .readSet } ∧ Sends s.link t [] [.coeffState]
        else t = s) ∧
    exec .hostOperationBegin s = .next
      (match s.store.waiting with
        | some op =>
          if s.store.running = none ∧ (s.integrity.queue = [] ∨ s.read ≠ none) then
            s.withStore { s.store with running := some (.host op), waiting := none }
          else s
        | none => s)

/-- READ_SET_COMPLETE: a discarded read changes no set; a copy that failed its check leaves the set FAILED with its words; a
copy that passed is written with fresh check bits, and the set is GOOD, its unsaved mark cleared and FAULT removed where all six
fixed sets are GOOD, or FAILED where the re-check fails. Then the freed controller begins what waits (R153, R154, R155, R156,
R159, R160, R161, R165; the outcome of the re-check is the command's, log entry 10; the copy is the one taken when the read
began, log entry 11; with no read in progress it is no event, log entry 2). -/
def Obligations.RestoreReadCompletes : Prop :=
  ∀ (passes : Bool) (s : State), Awake s → ShapeOk s → ReadOk s →
    ∃ t, exec (.readSetComplete passes) s = .next t ∧
      match s.read with
      | none => t = s
      | some r =>
        let e := s.coeffSet r.index
        let n := s.integrity
        let ends (m : Integrity) (output : List OutChan) (notices : List Notice) :=
          Begins m { s.store with running := none } t ∧ t.output = output ∧ Sends s.link t [] notices
        Only [.integrity, .output, .read, .store, .link] s t ∧
        if r.discard = true then ends n s.output (beginPosts n)
        else
          match r.copy with
          | none =>
            ends { n with
              sets := n.sets.set r.index { e with state := .failed }
              secondFailures := min 65535 (n.secondFailures + 1), last := some ⟨r.index, .failed, false⟩ }
              s.output [.coeffState]
          | some w =>
            let written := { e with words := w, placed := w, checkFlips := 0 }
            if passes = true then
              let sets := n.sets.set r.index { written with state := .good, unsaved := false }
              ends { n with
                sets := sets, restored := min 65535 (n.restored + 1), last := some ⟨r.index, .good, e.unsaved⟩ }
                (if r.index < 144 ∧
                    ∀ k ∈ List.range 6, (sets.getD (6 * (r.index / 6) + k) CoeffSet.reset).state = .good then
                  s.output.modify (r.index / 6) (OutChan.removeReason .fault) else s.output) [.coeffState]
            else
              ends { n with
                sets := n.sets.set r.index { written with state := .failed }
                secondFailures := min 65535 (n.secondFailures + 1), last := some ⟨r.index, .failed, false⟩ }
                s.output [.coeffState]

/-! ## The tuning store -/

/-- At the completion of a restore read, of LOAD, of a save or of a CLOSE the freed controller begins the read of the set at the
head of the restore queue if one waits, and otherwise the waiting host operation; where nothing waits it is free. A LOAD from a
VALID region makes every set GOOD first, so that no read waits then (R154, R165, R172, R173; the copy taken when the read
begins: log entry 11, DEDUCED; a set that left GOOD before a LOAD from no VALID region keeps its state: log entry 33, DEDUCED). -/
def Obligations.FreedControllerServesReadsFirst : Prop :=
  ∀ (c : Instr) (s : State), Awake s → ShapeOk s → QueueOk s → ReadOk s →
    ((∃ ok, c = .readSetComplete ok) ∧ s.store.running = some .readSet) ∨
      (c = .loadComplete ∧ s.store.running = some .load) ∨
      ((∃ ok, c = .saveComplete ok) ∧ ∃ op, s.store.running = some (.host op) ∧ op ≠ .close) ∨
      ((∃ ok, c = .closeComplete ok) ∧ s.store.running = some (.host .close)) →
    ∃ t, exec c s = .next t ∧
      match (if c = .loadComplete ∧ s.store.factoryState = .valid then [] else s.integrity.queue) with
      | i :: rest =>
        t.store.running = some .readSet ∧ t.store.waiting = s.store.waiting ∧ t.integrity.queue = rest ∧
          (t.coeffSet i).state = .restoring ∧
          let copy := t.store.factory.sets.getD i ⟨passThrough, false⟩
          t.read = some ⟨i, false,
            if t.store.factoryState = .valid ∧ copy.checkOk = true then some copy.words else none⟩
      | [] => t.integrity.queue = [] ∧ t.read = none ∧ t.store.waiting = none ∧
          t.store.running = s.store.waiting.map StoreOp.host

/-- SAVE and CLOSE_FACTORY: refused for an unknown region, while a host operation is outstanding, for the closed factory
region, and a CLOSE without a VALID one; otherwise accepted with the contents as they stand, and begun at once where the
controller is free and no restore read waits (R164). An accepted SAVE FACTORY clears the model's own mark of the sets written
since (log entry 21). -/
def Obligations.HostRequestsAccepted : Prop :=
  ∀ (tag : Byte) (s : State), Handles s →
    let busy := s.store.waiting ≠ none ∨ ∃ op, s.store.running = some (.host op)
    let held (op : HostOp) : Store :=
      if s.store.running = none ∧ (s.integrity.queue = [] ∨ s.read ≠ none) then
        { s.store with running := some (.host op) }
      else { s.store with waiting := some op }
    (∀ code : Byte, ∃ t, exec (.save tag [code]) s = .next t ∧
      (2 < code.toNat → Refused s t 0x09 tag .badId) ∧
      (code.toNat ≤ 2 → busy → Refused s t 0x09 tag .busy) ∧
      (code = 0 → ¬busy → s.store.closed = true → Refused s t 0x09 tag .isProtected) ∧
      (code = 0 → ¬busy → s.store.closed = false →
        Only [.store, .integrity, .link, .draws] s t ∧ Replies s t 0x09 tag .ok [] [] ∧
          t.store = held (.saveFactory ⟨s.tables, s.integrity.sets.map fun e => ⟨e.words, true⟩⟩) ∧
          t.integrity = { s.integrity with
            sets := s.integrity.sets.map fun e => { e with writtenSince := false } }) ∧
      (code = 1 → ¬busy → Only [.store, .link, .draws] s t ∧ Replies s t 0x09 tag .ok [] [] ∧
        t.store = held (.saveDealer s.patches)) ∧
      (code = 2 → ¬busy → Only [.store, .link, .draws] s t ∧ Replies s t 0x09 tag .ok [] [] ∧
        t.store = held (.saveStart s.planner.live))) ∧
    ∃ t, exec (.closeFactory tag []) s = .next t ∧
      (busy → Refused s t 0x0A tag .busy) ∧
      (¬busy → s.store.closed = true → Refused s t 0x0A tag .isProtected) ∧
      (¬busy → s.store.closed = false → s.store.factoryState ≠ .valid → Refused s t 0x0A tag .noTuning) ∧
      (¬busy → s.store.closed = false → s.store.factoryState = .valid →
        Only [.store, .link, .draws] s t ∧ Replies s t 0x0A tag .ok [] [] ∧ t.store = held .close)

/-- SAVE_COMPLETE and CLOSE_COMPLETE: the region takes the captured contents and becomes VALID, or CORRUPT where it does not
verify; the closed flag is set where it verifies and is never cleared; the operation is no longer outstanding and STORE_DONE is
posted; a verified SAVE FACTORY clears the unsaved marks of sets not written since its acceptance. Then the freed controller
begins what waits (R154, R157, R165, R166, R167; whether it verifies is the command's, log entry 10; contents that did not
verify, entry 29; STORE_DONE posted before the COEFF_STATE of a read that begins, entry 32; the completion of an operation that
does not run is no event, entry 2). -/
def Obligations.HostOperationsComplete : Prop :=
  ∀ (ok : Bool) (s : State), Awake s → ReadOk s →
    let state : RegionState := if ok = true then .valid else .corrupt
    let freed (code : Nat) : Store := { s.store with running := none, lastDone := some (code, ok) }
    let ends (m : Integrity) (st : Store) (t : State) := Only [.integrity, .read, .store, .link] s t ∧ Begins m st t ∧
      Sends s.link t [] (.storeDone :: beginPosts m)
    (∃ t, exec (.saveComplete ok) s = .next t ∧
      match s.store.running with
      | some (.host (.saveFactory f)) =>
        ends (if ok = true then { s.integrity with
            sets := s.integrity.sets.map fun e => { e with unsaved := e.unsaved && e.writtenSince } }
          else s.integrity) { freed 0 with factory := f, factoryState := state } t
      | some (.host (.saveDealer l)) => ends s.integrity { freed 1 with dealer := l, dealerState := state } t
      | some (.host (.saveStart sc)) => ends s.integrity { freed 2 with start := sc, startState := state } t
      | _ => t = s) ∧
    ∃ t, exec (.closeComplete ok) s = .next t ∧
      if s.store.running = some (.host .close) then
        ends s.integrity { freed 3 with closed := s.store.closed || ok } t
      else t = s

/-! ## Tables over the link -/

/-- TABLE_WRITE: an unknown table, a length that is no positive multiple of the entry size and a range outside the table are
refused in this order; a write to a level table or to CH_TRIM, CH_CEILING, CH_ANN_TRIM or CH_SDV_WEIGHT replaces exactly its
entries where the whole table that results meets its owner's constraints, and is refused whole with TABLE_INVALID where it does
not (R8, R9, R11, R32, R33, R34, R187). -/
def Obligations.NumberTablesWrittenWhole : Prop :=
  (∀ (tag code hi lo : Byte) (rest : List Byte) (s : State), Handles s → 1 ≤ rest.length → rest.length ≤ 245 →
    ∃ t, exec (.tableWrite tag (code :: hi :: lo :: rest)) s = .next t ∧
      match TableId.ofCode code.toNat with
      | none => Refused s t 0x07 tag .badId
      | some id =>
        (rest.length % id.entryBytes ≠ 0 → Refused s t 0x07 tag .badLength) ∧
          (rest.length % id.entryBytes = 0 →
            id.entries < hi.toNat * 256 + lo.toNat + rest.length / id.entryBytes → Refused s t 0x07 tag .badRange)) ∧
  ∀ (tag code hi lo : Byte) (id : TableId) (entries : List (List Byte)) (s : State), Handles s → TablesOk s →
    TableId.ofCode code.toNat = some id →
    id ∈ [TableId.volume, .annVolume, .balance, .fade, .trim, .ceiling, .annTrim, .sdvWeight] →
    entries ≠ [] → (∀ e ∈ entries, e.length = id.entryBytes) → entries.length * id.entryBytes ≤ 245 →
    hi.toNat * 256 + lo.toNat + entries.length ≤ id.entries →
    let first := hi.toNat * 256 + lo.toNat
    let table := (List.range id.entries).map fun i =>
      if first ≤ i ∧ i < first + entries.length then numOfBytes (entries.getD (i - first) [])
      else (s.tables.nums id).getD i 0
    ∃ t, exec (.tableWrite tag (code :: hi :: lo :: entries.flatten)) s = .next t ∧
      (NumbersMeet id table →
        Only [.tables, .link, .draws] s t ∧ t.tables = s.tables.putNums id table ∧ Replies s t 0x07 tag .ok [] []) ∧
      (¬NumbersMeet id table → Refused s t 0x07 tag .tableInvalid)

/-- A GLOBALS write is judged on the whole table; accepted, it zeroes the divider counter if it carries RAMP_DIVIDER, switches
the tracker where SPEED_SOURCE changes, and recomputes where SDV_BASS_DIV changes. A CH_DELAY write starts a delay change on
each written channel whose value differs from its applied delay or that has one pending, and closes a fader that is not
CLOSED with DELAY, unless it is already closing for DISABLED (R52, R65, R66, R83, R84, R91, R188). -/
def Obligations.GlobalsAndDelayWritesAct : Prop :=
  ∀ (tag hi lo : Byte) (values : List (Byte × Byte)) (s : State), Handles s → TablesOk s → values ≠ [] →
    let first := hi.toNat * 256 + lo.toNat
    let written (i : Nat) := first ≤ i ∧ i < first + values.length
    let table (id : TableId) := (List.range id.entries).map fun i =>
      if written i then ((values.getD (i - first) (0, 0)).1 ++ (values.getD (i - first) (0, 0)).2).toInt
      else (s.tables.nums id).getD i 0
    let payload (code : Byte) := code :: hi :: lo :: values.flatMap fun p => [p.1, p.2]
    (first + values.length ≤ 17 →
      ∃ t, exec (.tableWrite tag (payload 13)) s = .next t ∧
        (¬GlobalsMeet (table .globals) → Refused s t 0x07 tag .tableInvalid) ∧
        (GlobalsMeet (table .globals) →
          let source := t.tables.global .speedSource
          let switches := source ≠ s.tables.global .speedSource
          let m := if switches then
              if source = 1 then { s.tracker with state := .pulse, windowFrames := 0, windowPulses := 0 }
              else { s.tracker with state := .stale, staleCount := 0 }
            else s.tracker
          Only [.tables, .ramp, .tracker, .link, .draws] s t ∧
            t.tables = { s.tables with globals := table .globals } ∧
            t.ramp = (if written 1 then { s.ramp with divider := 0 } else s.ramp) ∧
            t.tracker = (if t.tables.global .sdvBassDiv = s.tables.global .sdvBassDiv then m
              else derived t.tables s.planner.live m) ∧
            Replies s t 0x07 tag .ok [] (if switches then [.speedState] else []))) ∧
    (ShapeOk s → first + values.length ≤ 24 →
      ∃ t, exec (.tableWrite tag (payload 12)) s = .next t ∧
        if ∀ v ∈ table .delay, 0 ≤ v ∧ v ≤ 960 then
          Only [.tables, .output, .link, .draws] s t ∧ t.tables = { s.tables with delay := table .delay } ∧
            Replies s t 0x07 tag .ok [] [] ∧
            ∀ c, c < 24 → t.outChan c =
              let o := s.outChan c
              let v := (t.tables.delay.getD c 0).toNat
              let p := { o with pendingDelay := some v }
              if ¬written c ∨ (o.pendingDelay = none ∧ v = (s.line c).applied) then o
              else if o.fader.state = .closed ∨ (o.fader.state = .closing ∧ o.fader.reasons.disabled = true) then p
              else p.addReason .delay
        else Refused s t 0x07 tag .tableInvalid)

/-- Writes of the tables of records, entry by entry as R190 lays them out: CH_ROUTE replaces the written entries, whatever the
ignored bits hold, and adds or removes DISABLED where enabled changes; CLASSES replaces and runs arbitration; SPEED_CURVE
replaces and recomputes where the whole curve is valid. A write with one entry that has a field out of its range, or a curve that
is not valid, is refused whole (R9, R10, R70, R88, R92, R111, R190). -/
def Obligations.RecordTablesWritten : Prop :=
  ∀ (tag hi lo : Byte) (s : State), Handles s → TablesOk s →
    let first := hi.toNat * 256 + lo.toNat
    (∀ bs : List (Vector Byte 4), bs ≠ [] → first + bs.length ≤ 24 →
      ∃ t, exec (.tableWrite tag (7 :: hi :: lo :: bs.flatMap Vector.toList)) s = .next t ∧
        ((∃ b ∈ bs, ∀ r, ¬RouteReads b r) → Refused s t 0x07 tag .tableInvalid) ∧
        ∀ rs : List Route, List.Forall₂ RouteReads bs rs → ShapeOk s →
          Only [.tables, .output, .link, .draws] s t ∧ Replies s t 0x07 tag .ok [] [] ∧
          t.tables = { s.tables with
            route := s.tables.route.take first ++ rs ++ s.tables.route.drop (first + rs.length) } ∧
          ∀ c, c < 24 → t.outChan c =
            match (s.tables.routeOf c).enabled, (t.tables.routeOf c).enabled with
            | true, false => (s.outChan c).addReason .disabled
            | false, true => (s.outChan c).removeReason .disabled
            | _, _ => s.outChan c) ∧
    (∀ bs : List (Vector Byte 5), bs ≠ [] → first + bs.length ≤ 4 →
      ∃ t, exec (.tableWrite tag (6 :: hi :: lo :: bs.flatMap Vector.toList)) s = .next t ∧
        ((∃ b ∈ bs, ∀ e, ¬ClassReads b e) → Refused s t 0x07 tag .tableInvalid) ∧
        ∀ es : List ClassEntry, List.Forall₂ ClassReads bs es →
          Only [.tables, .arbiter, .link, .draws] s t ∧
          t.tables = { s.tables with
            classes := s.tables.classes.take first ++ es ++ s.tables.classes.drop (first + es.length) } ∧
          t.arbiter = arbitrated t.tables s.arbiter ∧
          Replies s t 0x07 tag .ok [] (if t.arbiter = s.arbiter then [] else [.annState])) ∧
    ∀ bs : List (Vector Byte 3), bs ≠ [] → first + bs.length ≤ 8 →
      ∃ t, exec (.tableWrite tag (5 :: hi :: lo :: bs.flatMap Vector.toList)) s = .next t ∧
        ((∃ b ∈ bs, ∀ p, ¬CurveReads b p) → Refused s t 0x07 tag .tableInvalid) ∧
        ∀ ps : List CurvePoint, List.Forall₂ CurveReads bs ps →
          let curve := s.tables.speedCurve.take first ++ ps ++ s.tables.speedCurve.drop (first + ps.length)
          (CurveMeets curve →
            Only [.tables, .tracker, .link, .draws] s t ∧ t.tables = { s.tables with speedCurve := curve } ∧
              t.tracker = derived t.tables s.planner.live s.tracker ∧ Replies s t 0x07 tag .ok [] []) ∧
          (¬CurveMeets curve → Refused s t 0x07 tag .tableInvalid)

/-- A write of coefficient sets is refused whole with UNSTABLE if one of them is unstable; accepted, it makes exactly the
written sets GOOD with their words, fresh check bits and unsaved mark, takes SUSPECT ones from the restore queue, discards a
read in progress of a RESTORING one, removes FAULT from a channel whose six fixed sets are GOOD again, and records and
announces the highest set that was not GOOD (R101, R102, R153, R157, R158). -/
def Obligations.CoefficientWriteMakesGood : Prop :=
  ∀ (tag code hi lo : Byte) (id : TableId) (base : Nat) (ws : List Words) (s : State),
    Handles s → ShapeOk s → QueueOk s → ReadOk s → TableId.ofCode code.toNat = some id → id.firstSet = some base →
    ws ≠ [] → ws.length ≤ 16 → hi.toNat * 256 + lo.toNat + ws.length ≤ id.entries →
    let first := base + (hi.toNat * 256 + lo.toNat)
    let written (i : Nat) := first ≤ i ∧ i < first + ws.length
    let mended := (List.range 344).filter fun i => written i ∧ (s.coeffSet i).state ≠ .good
    ∃ t, exec (.tableWrite tag (code :: hi :: lo :: ws.flatMap wordsBytes)) s = .next t ∧
      if ∀ w ∈ ws, w.a2.toInt.natAbs < 4194304 ∧ (w.a1.toInt.natAbs : Int) < 4194304 + w.a2.toInt then
        Only [.integrity, .output, .read, .link, .draws] s t ∧
          (∀ i, i < 344 → t.coeffSet i = if written i then
              ⟨ws.getD (i - first) passThrough, ws.getD (i - first) passThrough, 0, .good, true, true⟩
            else s.coeffSet i) ∧
          t.integrity = { s.integrity with
            sets := t.integrity.sets, queue := s.integrity.queue.filter fun i => ¬written i
            last := match mended.getLast? with
              | some i => some ⟨i, .good, false⟩
              | none => s.integrity.last } ∧
          t.read = s.read.map (fun r => if r.index ∈ mended ∧ (s.coeffSet r.index).state = .restoring then
            { r with discard := true } else r) ∧
          (∀ c, c < 24 → t.outChan c =
            if (∃ i ∈ mended, i < 144 ∧ i / 6 = c) ∧ ∀ k ∈ List.range 6, (t.coeffSet (6 * c + k)).state = .good then
              (s.outChan c).removeReason .fault
            else s.outChan c) ∧
          Replies s t 0x07 tag .ok [] (if mended = [] then [] else [.coeffState])
      else Refused s t 0x07 tag .unstable

/-- TABLE_READ: an unknown table, and then a count of 0, a count whose entries exceed 247 bytes or a range outside the table, are
refused. What a read of any table but the coefficient tables returns, a TABLE_WRITE of the same range accepts, and it leaves
every working table as it was. A read of a coefficient table returns the words as they stand, or PROTECTED once the factory
region is closed, and what it returns carries exactly those words (R147, R167, R186, R187, R189, R190). -/
def Obligations.TableReadWritesBack : Prop :=
  (∀ (tag code hi lo count : Byte) (s : State), Handles s →
    ∃ t, exec (.tableRead tag [code, hi, lo, count]) s = .next t ∧
      match TableId.ofCode code.toNat with
      | none => Refused s t 0x08 tag .badId
      | some id => count = 0 ∨ 247 < count.toNat * id.entryBytes ∨ id.entries < hi.toNat * 256 + lo.toNat + count.toNat →
        Refused s t 0x08 tag .badRange) ∧
  (∀ (tag tag' code hi lo count : Byte) (id : TableId) (s : State), Handles s → TablesOk s →
    TableId.ofCode code.toNat = some id → id.firstSet = none → 1 ≤ count.toNat →
    count.toNat * id.entryBytes ≤ 245 → hi.toNat * 256 + lo.toNat + count.toNat ≤ id.entries →
    ∃ content t u, exec (.tableRead tag [code, hi, lo, count]) s = .next t ∧
      Only [.link, .draws] s t ∧ Replies s t 0x08 tag .ok content [] ∧
      content.length = count.toNat * id.entryBytes ∧
      exec (.tableWrite tag' (code :: hi :: lo :: content)) s = .next u ∧ u.tables = s.tables ∧
      ∃ ns, Replies s u 0x07 tag' .ok [] ns) ∧
  (∀ (tag code hi lo count : Byte) (id : TableId) (base : Nat) (s : State), Handles s →
    TableId.ofCode code.toNat = some id → id.firstSet = some base → 1 ≤ count.toNat → count.toNat * 15 ≤ 247 →
    hi.toNat * 256 + lo.toNat + count.toNat ≤ id.entries →
    ∃ t, exec (.tableRead tag [code, hi, lo, count]) s = .next t ∧
      if s.store.closed = true then Refused s t 0x08 tag .isProtected
      else Only [.link, .draws] s t ∧ Replies s t 0x08 tag .ok ((List.range count.toNat).flatMap fun i =>
        wordsBytes (s.coeffSet (base + (hi.toNat * 256 + lo.toNat) + i)).words) []) ∧
  ∀ w : Words, wordsOfBytes (wordsBytes w) = w

/-! ## The patch list -/

/-- PATCH_PUT: refused for an unknown table, an entry outside it, a seventeenth record and a table that would break its
constraints, in this order; accepted, it writes the entry and replaces the target's record in place or appends one. PATCH_DROP
removes the target's record and keeps the order of the others, and leaves the working table alone (R169, R170, R171). -/
def Obligations.PatchesPutAndDropped : Prop :=
  ∀ (tag code hi lo : Byte) (s : State), Handles s → TablesOk s →
    let i := hi.toNat * 256 + lo.toNat
    (∀ vhi vlo : Byte, ∃ t, exec (.patchPut tag [code, hi, lo, vhi, vlo]) s = .next t ∧
      match PatchTable.ofCode code.toNat with
      | none => Refused s t 0x0B tag .badId
      | some p =>
        let v := (vhi ++ vlo).toInt
        let has := ∃ r ∈ s.patches, r.table = p ∧ r.index = i
        let table := (s.tables.nums p.table).set i v
        if p.table.entries ≤ i then Refused s t 0x0B tag .badRange
        else if ¬has ∧ 16 ≤ s.patches.length then Refused s t 0x0B tag .full
        else (¬NumbersMeet p.table table → Refused s t 0x0B tag .tableInvalid) ∧
          (NumbersMeet p.table table →
            Only [.tables, .patches, .link, .draws] s t ∧ t.tables = s.tables.putNums p.table table ∧
              t.patches = (if has then
                  s.patches.map fun r => if r.table = p ∧ r.index = i then { r with value := v } else r
                else s.patches ++ [⟨p, i, v⟩]) ∧
              Replies s t 0x0B tag .ok [] [])) ∧
    ∃ t, exec (.patchDrop tag [code, hi, lo]) s = .next t ∧
      match PatchTable.ofCode code.toNat with
      | none => Refused s t 0x0C tag .badId
      | some p =>
        if p.table.entries ≤ i then Refused s t 0x0C tag .badRange
        else Only [.patches, .link, .draws] s t ∧
          t.patches = s.patches.filter (fun r => ¬(r.table = p ∧ r.index = i)) ∧ Replies s t 0x0C tag .ok [] []

/-! ## The control link -/

/-- QUERY answers its item from the owners' state as it stands, a channel's fader, targets, gains and tone steps as the last
boundary left them, in every start-up state, and changes nothing; an unknown item is BAD_ID and an index outside the item's range
BAD_RANGE (R23, R49, R59, R93, R132, R145, R176, R183; R59 followed for the fader, not R183: log entry 14; one byte for each
small item: log entry 27). -/
def Obligations.QueryAnswersItems : Prop :=
  ∀ (tag item hi lo : Byte) (s : State), Awake s → s.link.replies.length < 4 →
    let i := hi.toNat * 256 + lo.toNat
    let o := s.outChan i
    let f := o.shown
    let a := s.ramp.applied.getD i PathGains.mute
    let g := s.planner.targets.getD i PathGains.mute
    let steps := s.planner.tone.getD i ⟨0, 0⟩
    let record (k : AnnClass) : List Byte :=
      let r := s.arbiter.classes.get k
      [r.state.code, r.roles.byte, r.state.slotCode, r.lastEnd.code]
    let outstanding : Byte := match s.store.waiting, s.store.running with
      | some op, _ => byteOf op.code
      | none, some (.host op) => byteOf op.code
      | _, _ => 4
    let answer : Except Status (List Byte) := match item.toNat with
      | 1 => .ok (s.planner.live.map byteOf ++ [byteOf (s.planner.waiting.filter Option.isSome).length])
      | 2 => .ok [s.tracker.state.code, byteOf s.tracker.sf, byteOf s.tracker.lastSample]
      | 3 => .ok [s.supply.state.code, byteOf s.supply.reading]
      | 4 => .ok ([AnnClass.alert, .park, .phone, .nav].flatMap record ++
          [s.arbiter.slots.slot1.code, s.arbiter.slots.slot2.code] ++
          [AnnClass.alert, .park, .phone, .nav].flatMap fun k => bytes4 (s.arbiter.classes.get k).timer)
      | 5 => if i < 24 then .ok ([a.prog, a.slot1, a.slot2, g.prog, g.slot1, g.slot2].flatMap bytes2 ++
          [f.state.code] ++ bytes2 f.level ++ [f.reasons.byte, byteOf steps.bass, byteOf steps.treble] ++
          bytes2 (s.line i).applied ++ [flagByte o.pendingDelay.isSome] ++ bytes2 (o.pendingDelay.getD 0))
        else .error .badRange
      | 6 => if i < 344 then .ok [(s.coeffSet i).state.code] else .error .badRange
      | 7 => .ok [s.store.factoryState.code, s.store.dealerState.code, s.store.startState.code, flagByte s.store.closed,
          outstanding]
      | 8 => .ok [s.record.cause.code, flagByte s.record.cutFlag, byteOf s.record.count]
      | 9 => .ok [s.startup.state.code]
      | _ => .error .badId
    ∃ t, exec (.query tag [item, hi, lo]) s = .next t ∧
      match answer with
      | .ok content => Only [.link, .draws] s t ∧ Replies s t 0x03 tag .ok content []
      | .error x => Refused s t 0x03 tag x

/-- COUNTERS returns the 30 counters and zeroes them all where its clear flag is set; CLEAR_HISTORY clears the flag and the
count of the reset record and keeps the cause; RESTART makes a reset pending (R184, R185). -/
def Obligations.CountersHistoryRestart : Prop :=
  ∀ (tag : Byte) (s : State), Handles s →
    (∀ clear : Byte,
      let content := ([s.link.crcErrors, s.link.gaps, s.link.discards, s.link.invalidReports, s.integrity.restored,
        s.integrity.secondFailures] ++ (List.range 24).map fun c => (s.outChan c).clipCount).flatMap fun n => bytes2 n
      ∃ t, exec (.counters tag [clear]) s = .next t ∧
        if clear.getLsbD 0 = true then
          Only [.integrity, .output, .link, .draws] s t ∧
            t.integrity = { s.integrity with restored := 0, secondFailures := 0 } ∧
            t.output = s.output.map (fun o => { o with clipCount := 0 }) ∧
            Sends { afterFrame s.link with crcErrors := 0, gaps := 0, discards := 0, invalidReports := 0 } t
              [replyFrame 0x0D tag .ok content] []
        else Only [.link, .draws] s t ∧ Replies s t 0x0D tag .ok content []) ∧
    (∃ t, exec (.clearHistory tag []) s = .next t ∧ Only [.record, .link, .draws] s t ∧
      t.record = { s.record with cutFlag := false, count := 0 } ∧ Replies s t 0x0E tag .ok [] []) ∧
    ∃ t, exec (.restart tag []) s = .next t ∧ Only [.link, .draws] s t ∧
      Sends { afterFrame s.link with restartPending := true } t [replyFrame 0x0F tag .ok []] []

/-- The link by bytes. A byte on LINK_RX moves the assembler as R177 says: SYNC starts a frame, a LENGTH out of range ends it and
is counted, a gap of more than 2 ms inside one ends it and is counted, and its byte starts a frame if it is SYNC; the bytes of a
frame on time, from a hunting assembler, run its request at their last byte, and those of a frame whose CRC differs are counted
and run nothing. The frames the part sends have that layout and that CRC. The commands for these ends do the same (R177, R178,
R179; how bytes arrive: log entries 4 and 18). -/
def Obligations.LineErrorsAreCounted : Prop :=
  (∀ s : State, Awake s →
    let spoilt := s.withLink { s.link with assembler := .hunting, crcErrors := min 65535 (s.link.crcErrors + 1) }
    (∀ (body : List Byte) (crc : BitVec 16), crc ≠ crcOf body → exec (.crcError body crc) s = .next spoilt) ∧
    (∀ length : Byte, length.toNat < 2 ∨ 250 < length.toNat → exec (.frameLengthInvalid length) s = .next spoilt) ∧
    ∀ next : Byte, exec (.linkGap next) s = .next (s.withLink { s.link with
      gaps := min 65535 (s.link.gaps + 1), assembler := if next = 0xA5 then .started else .hunting })) ∧
  (∀ (b : RxByte) (rest : List RxByte) (s : State), Awake s → s.pending = [] → s.received = b :: rest →
    let u := s.withReceived rest
    let moved (a : Assembler) := u.withLink { u.link with assembler := a }
    if b.late = true ∧ s.link.assembler ≠ .hunting then
      step s = .next (u.withLink { u.link with
        gaps := min 65535 (u.link.gaps + 1), assembler := if b.value = 0xA5 then .started else .hunting })
    else match s.link.assembler with
      | .hunting => step s = .next (moved (if b.value = 0xA5 then .started else .hunting))
      | .started =>
        step s = .next (if b.value.toNat < 2 ∨ 250 < b.value.toNat then
          u.withLink { u.link with assembler := .hunting, crcErrors := min 65535 (u.link.crcErrors + 1) }
        else moved (.collecting b.value []))
      | .collecting length got => got.length < length.toNat + 1 →
        step s = .next (moved (.collecting length (got ++ [b.value])))) ∧
  (∀ (kind tag : Byte) (payload : List Byte) (crc : BitVec 16) (rest : List RxByte) (s : State), Awake s →
    s.pending = [] → s.link.assembler = .hunting → payload.length ≤ 248 →
    let body := BitVec.ofNat 8 (payload.length + 2) :: kind :: tag :: payload
    s.received = ((0xA5 :: body ++ [crc.extractLsb' 8 8, crc.extractLsb' 0 8]).map fun v => ⟨v, false⟩) ++ rest →
    let u := s.withReceived rest
    ∃ t, Runs (payload.length + 5) s t ∧
      (crc ≠ crcOf body → step t = .next (u.withLink { u.link with crcErrors := min 65535 (u.link.crcErrors + 1) })) ∧
      (crc = crcOf body → (∀ r ∈ requestKinds, r.1 = kind → step t = exec (r.2 tag payload) u) ∧
        (kind = 0 ∨ 15 < kind.toNat → step t = exec (.badKind kind tag payload) u))) ∧
  ∀ f : Frame, f.payload.length ≤ 248 →
    let body := BitVec.ofNat 8 (f.payload.length + 2) :: f.kind :: f.tag :: f.payload
    f.bytes = 0xA5 :: body ++ [(crcOf body).extractLsb' 8 8, (crcOf body).extractLsb' 0 8]

/-- The common checks, in their order: with four replies waiting a good frame is discarded and counted; a kind that is no
request kind is BAD_KIND; a wrong length is BAD_LENGTH; while LOADING every kind but QUERY is NOT_READY. None of them changes
any block (R179, R180). -/
def Obligations.CommonChecksRefuse : Prop :=
  let even (n : Nat) := n % 2 = 1 && 3 ≤ n && n ≤ 35
  let requests : List (Byte × (Byte → List Byte → Instr) × (Nat → Bool)) :=
    [(0x01, .set, even), (0x02, .commit, (· = 0)), (0x03, .query, (· = 3)), (0x04, .speed, (· = 3)),
     (0x05, .annStart, (· = 2)), (0x06, .annEnd, (· = 1)), (0x07, .tableWrite, fun n => 4 ≤ n && n ≤ 248),
     (0x08, .tableRead, (· = 4)), (0x09, .save, (· = 1)), (0x0A, .closeFactory, (· = 0)), (0x0B, .patchPut, (· = 5)),
     (0x0C, .patchDrop, (· = 3)), (0x0D, .counters, (· = 1)), (0x0E, .clearHistory, (· = 0)), (0x0F, .restart, (· = 0))]
  ∀ (tag : Byte) (p : List Byte) (s : State), Awake s →
    (4 ≤ s.link.replies.length →
      let gone := s.withLink { afterFrame s.link with discards := min 65535 (s.link.discards + 1) }
      (∀ r ∈ requests, exec (r.2.1 tag p) s = .next gone) ∧
        ∀ kind : Byte, (kind = 0 ∨ 15 < kind.toNat) → exec (.badKind kind tag p) s = .next gone) ∧
    (s.link.replies.length < 4 →
      (∀ kind : Byte, (kind = 0 ∨ 15 < kind.toNat) →
        ∃ t, exec (.badKind kind tag p) s = .next t ∧ Refused s t kind tag .badKind) ∧
      ∀ r ∈ requests, ∃ t, exec (r.2.1 tag p) s = .next t ∧
        (r.2.2 p.length = false → Refused s t r.1 tag .badLength) ∧
        (r.2.2 p.length = true → s.startup.state = .loading → r.1 ≠ 0x03 → Refused s t r.1 tag .notReady))

/-- When the transmitter has sent a frame: after the OK reply of a pending RESTART the reset is taken, with the effect of any
reset on the store; otherwise the reply at the head of its queue begins, or else the notice at the head of its queue with its
content as it stands, a CLIP emptying the clip set, or else the transmitter goes idle (R1, R21, R166, R168, R176, R181, R182,
R185, R190; the model's choices: FRAME_SENT at an idle transmitter is no event, log entry 2; the samples in flight, 15; the held
part, 17; the pending mark cleared, 19; a cut-off operation, 30). -/
def Obligations.FrameSentBeginsNext : Prop :=
  ∀ s : State, Awake s →
    ∃ t, exec .frameSent s = .next t ∧
      match s.link.tx with
      | none => t = s
      | some f =>
        if s.link.restartPending = true ∧ f.kind = 0x8F ∧ f.payload.head? = some 0 then
          Only [.store, .read, .link, .audio, .hold] s t ∧
            t.hold = { s.hold with restart := true } ∧ t.link = Link.reset ∧ t.audio = Audio.reset ∧
            t.audio.outputs = OutPorts.silent ∧ t.read = none ∧ t.store = afterReset s.store
        else
          let record (k : AnnClass) : List Byte :=
            let r := s.arbiter.classes.get k
            [r.state.code, r.roles.byte, r.state.slotCode, r.lastEnd.code]
          let count (x : SetState) := s.integrity.sets.countP fun e => e.state = x
          let notice (n : Notice) : Frame := match n with
            | .ready => ⟨0x40, 0, [s.startup.state.code, s.record.cause.code, flagByte s.record.cutFlag,
                byteOf s.record.count, s.store.factoryState.code, s.store.dealerState.code, s.store.startState.code,
                flagByte s.store.closed, byteOf s.startup.skipped]⟩
            | .annState => ⟨0x41, 0, [AnnClass.alert, .park, .phone, .nav].flatMap record ++
                [s.arbiter.slots.slot1.code, s.arbiter.slots.slot2.code]⟩
            | .speedState => ⟨0x42, 0, [s.tracker.state.code, byteOf s.tracker.sf]⟩
            | .supplyState => ⟨0x43, 0, [s.supply.state.code, byteOf s.supply.reading]⟩
            | .coeffState => ⟨0x44, 0, bytes2 (count .suspect) ++ [byteOf (count .restoring)] ++ bytes2 (count .failed) ++
                match s.integrity.last with
                | none => [0, 0, 0, 0, 0]
                | some x => [1] ++ bytes2 x.index ++ [x.entered.code, flagByte x.reverted]⟩
            | .storeDone => ⟨0x45, 0, match s.store.lastDone with
                | none => [0, 0]
                | some (code, ok) => [byteOf code, if ok = true then 0 else 1]⟩
            | .clip => ⟨0x46, 0, (List.range 3).map fun k =>
                marksByte ((List.range 8).map fun n => (s.outChan (8 * k + n)).inClipSet)⟩
          Only [.link, .output] s t ∧
          match s.link.replies, s.link.notices with
          | r :: rest, _ => t.output = s.output ∧ t.link = { s.link with tx := some r, replies := rest }
          | [], n :: rest =>
            t.output = (if n = .clip then s.output.map (fun o => { o with inClipSet := false }) else s.output) ∧
              t.link = { s.link with tx := some (notice n), notices := rest }
          | [], [] => t.output = s.output ∧ t.link = { s.link with tx := none }

/-! ## Reset and start-up -/

/-- A supply cut, RESET_N or a loss of power holds the part (the hold of RESTART begins in FrameSentBeginsNext): the output ports
carry zero, what waited to be sent is lost, an interrupted save leaves its region CORRUPT and any other operation writes
nothing. A hold that ends while another stands leaves the part held. The end of the last hold releases it: every volatile value
as after reset, the reset record written with its cause, flag and count, the store kept and its FACTORY region examined, LOADING,
and LOAD begun (R1, R142, R162, R168, R172, R175; the model's choices: a RESET_RELEASE of a hold not in force, log entry 2;
damaged copies, 9; the samples in flight, 15; the held part, 17; reset values the spec does not state, 19; a cut-off operation, 30; R101's stability, 31). -/
def Obligations.ResetHoldsAndReleases : Prop :=
  (∀ (c : Instr) (s : State), c = .supplyCut ∨ c = .resetPin ∨ c = .powerLoss →
    ∃ t, exec c s = .next t ∧ Only [.store, .read, .link, .audio, .hold] s t ∧
      t.held = true ∧ t.read = none ∧ t.link = Link.reset ∧ t.audio = Audio.reset ∧ t.audio.outputs = OutPorts.silent ∧
      t.hold = (if c = .resetPin then { s.hold with pin := true }
        else { s.hold with supply := true, cutSeen := true, powerLost := s.hold.powerLost || decide (c = .powerLoss) }) ∧
      t.store = afterReset s.store) ∧
  ∀ (h : Hold) (s : State),
    let left := match h with
      | .supplyCut => { s.hold with supply := false }
      | .restartRequest => { s.hold with restart := false }
      | .resetPin => { s.hold with pin := false }
    ∃ t, exec (.resetRelease h) s = .next t ∧
      if left = s.hold then t = s
      else if left.supply = true ∨ left.restart = true ∨ left.pin = true then t = { s with hold := left }
      else
        t = { State.reset with
            store := { s.store with
              factoryState := t.store.factoryState, running := some .load, waiting := none, lastDone := none }
            record := if s.hold.powerLost = true then ⟨.powerOn, false, 0⟩
              else ⟨match h with
                | .supplyCut => .supplyCut
                | .restartRequest => .restartRequest
                | .resetPin => .resetPin,
                s.record.cutFlag || s.hold.cutSeen, min 255 (s.record.count + 1)⟩
            draws := t.draws, pending := s.pending, received := s.received } ∧
          (s.store.factoryState ≠ .valid → t.store.factoryState = s.store.factoryState) ∧
          (s.store.factoryState = .valid → TablesFull s.store.factory.tables →
            let sound := TablesMeet s.store.factory.tables ∧ ∀ e ∈ s.store.factory.sets,
              e.words.a2.toInt.natAbs < 4194304 ∧ (e.words.a1.toInt.natAbs : Int) < 4194304 + e.words.a2.toInt
            (¬sound → t.store.factoryState = .corrupt) ∧
            (sound → (∀ e ∈ s.store.factory.sets, e.checkOk = true) → t.store.factoryState = .valid) ∧
            (t.store.factoryState = .valid ∨ t.store.factoryState = .corrupt))

/-- LOAD ends in RUNNING with a VALID FACTORY region and otherwise in TUNELESS with the tables as they are. From a VALID region
it places the stored tables and sets as writes would: DISABLED follows CH_ROUTE, a CH_DELAY that differs from the applied delay
starts a delay change, the arbiter arbitrates, the tracker switches and recomputes, FAULT goes with the sets; then it applies
the dealer patches in list order, each that its table admits, the others counted and kept in the list; then STARTUP leaves every
channel. The patch list and the scene come from their regions where those are VALID, both volumes under the cap; READY is posted;
and the freed controller begins what waits (R10, R52, R65, R70, R83, R84, R92, R129, R153, R154, R158, R165, R169, R173, R174,
R176; the order of the tables: log entry 13; READY posted before the COEFF_STATE of a read that begins: log
entry 32; sets that are not GOOD at the beginning of TUNELESS: log entry 33, DEDUCED). -/
def Obligations.LoadEndsLoading : Prop :=
  ∀ s : State, Awake s → ShapeOk s → TablesOk s → QueueOk s → ReadOk s → s.store.running = some .load →
    let valid := s.store.factoryState = .valid
    let stored := s.store.factory.tables
    let patches := if s.store.dealerState = .valid then s.store.dealer else []
    let scene := if s.store.startState = .valid then s.store.start else s.planner.live
    let freed := { s.store with running := none }
    ∃ t, exec .loadComplete s = .next t ∧
      Only [.tables, .planner, .ramp, .output, .tracker, .arbiter, .integrity, .read, .store, .patches, .startup, .link]
        s t ∧
      t.startup.state = (if valid then .running else .tuneless) ∧ t.patches = patches ∧
      (t.planner = { s.planner with live := t.planner.live } ∧ t.planner.live.length = 17 ∧
        ∀ x : Setting, t.planner.live.val x =
          if x = .volFront ∨ x = .volRear then min (t.tables.global .startVolCap) (scene.val x) else scene.val x) ∧
      (¬valid → t.tables = s.tables ∧ t.startup.skipped = 0 ∧ t.output = s.output ∧ t.arbiter = s.arbiter ∧
        t.ramp = s.ramp ∧ t.tracker = (if t.planner.live.val .sdvLevel = s.planner.live.val .sdvLevel then s.tracker
          else derived s.tables t.planner.live s.tracker) ∧
        Begins s.integrity freed t ∧ Sends s.link t [] (.ready :: beginPosts s.integrity)) ∧
      (valid →
        (∃ stages : List (Tables × Nat), stages.length = patches.length + 1 ∧ stages.head? = some (stored, 0) ∧
          stages.getLast? = some (t.tables, t.startup.skipped) ∧
          ∀ (i : Nat) (r : PatchRec) (was now : Tables × Nat), patches[i]? = some r → stages[i]? = some was →
            stages[i + 1]? = some now →
            let patched := (was.1.nums r.table.table).set r.index r.value
            (r.index < r.table.table.entries ∧ NumbersMeet r.table.table patched →
              now = (was.1.putNums r.table.table patched, was.2)) ∧
            (¬(r.index < r.table.table.entries ∧ NumbersMeet r.table.table patched) → now = (was.1, was.2 + 1))) ∧
        (∀ c, c < 24 →
          let o := s.outChan c
          let routed := match (s.tables.routeOf c).enabled, (stored.routeOf c).enabled with
            | true, false => o.addReason .disabled
            | false, true => o.removeReason .disabled
            | _, _ => o
          let v := (stored.delay.getD c 0).toNat
          let delayed := if routed.pendingDelay = none ∧ v = (s.line c).applied then routed
            else
              let p := { routed with pendingDelay := some v }
              if routed.fader.state = .closed ∨ (routed.fader.state = .closing ∧ routed.fader.reasons.disabled = true) then p
              else p.addReason .delay
          let mended := if ∃ k ∈ List.range 6, (s.coeffSet (6 * c + k)).state ≠ .good then delayed.removeReason .fault
            else delayed
          t.outChan c = mended.removeReason .startup) ∧
        t.ramp = { s.ramp with divider := 0 } ∧ t.arbiter = arbitrated stored s.arbiter ∧
        let source := stored.global .speedSource
        let switches := source ≠ s.tables.global .speedSource
        t.tracker = derived stored t.planner.live (if switches then
            if source = 1 then { s.tracker with state := .pulse, windowFrames := 0, windowPulses := 0 }
            else { s.tracker with state := .stale, staleCount := 0 }
          else s.tracker) ∧
        let left := (List.range 344).filter fun i => (s.coeffSet i).state ≠ .good
        let sets := s.store.factory.sets.map fun e => (⟨e.words, e.words, 0, .good, false, false⟩ : CoeffSet)
        Begins { s.integrity with
            sets := sets, queue := []
            last := match left.getLast? with
              | some i => some ⟨i, .good, false⟩
              | none => s.integrity.last } freed t ∧
          Sends s.link t [] ((if t.arbiter = s.arbiter then [] else [.annState]) ++
            (if switches then [.speedState] else []) ++ (if left = [] then [] else [.coeffState]) ++ [.ready]))

/-! ## The sample plane -/

/-- A sample period: channel c leaves at position c mod 8 of port c / 8, which carries the word made two periods ago; each channel's mix is its programme leg and the two lanes
weighted by their gain words, its sections run in order, its line takes the result and presents the sample its delay ago, and
the fader, the polarity and the output limit make the word; a saturation sets the clip mark; the frame clock counts to 47
(R2, R3, R4, R6, R12 to R16, R18, R19, R98, R99, R106; where the two periods lie: log entry 15;
the form of a line: log entry 22). -/
def Obligations.SamplePeriodRule : Prop :=
  (∀ (p : Ports) (s : State), Awake s → ShapeOk s →
    ∃ t, exec (.samplePeriod p) s = .next t ∧ Only [.eq, .lines, .output, .audio] s t ∧
      t.audio = { t.audio with
        clock := if 47 ≤ s.audio.clock then 0 else s.audio.clock + 1, stage2 := s.audio.stage1
        outputs :=
          let port (k : Nat) : Vector Word24 8 := Vector.ofFn fun p => s.audio.stage2.getD (8 * k + p) 0
          ⟨port 0, port 1, port 2⟩ } ∧
      t.audio.stage1.length = 24 ∧
      ∀ c, c < 24 →
        let m := s.mixer.getD c MixChan.reset
        let a := s.ramp.applied.getD c PathGains.mute
        let port := if m.source = .progA then p.progA else p.progB
        let leg := match m.leg with
          | .left => port[0].toInt
          | .right => port[1].toInt
          | .sum => (port[0].toInt + port[1].toInt + 1) / 2
        let mix := (leg * gainWord a.prog + p.ann[0].toInt * gainWord a.slot1 + p.ann[1].toInt * gainWord a.slot2 + 524288) /
          1048576
        let eq := runSections (s.eq.getD c []) mix
        let o := s.outChan c
        let v := (((eq.2.1 :: (s.line c).samples).getD (s.line c).applied 0) * gainWord o.fader.level + 524288) / 1048576
        let signed := if o.polarity = .inverted then -v else v
        let limited := max (-8388608) (min 8388607 signed)
        t.audio.stage1.getD c 0 = BitVec.ofInt 24 limited ∧ t.eq.getD c [] = eq.1 ∧ t.line c = (s.line c).push eq.2.1 ∧
          t.outChan c = { o with clipMark := o.clipMark || eq.2.2 || decide (limited ≠ signed) }) ∧
  ∀ (e : EqSection) (rest : List EqSection) (x : Int),
    let sum := e.words.b0.toInt * x + e.words.b1.toInt * e.x1 + e.words.b2.toInt * e.x2 - e.words.a1.toInt * e.y1 -
      e.words.a2.toInt * e.y2
    let v := (sum + 2097152) / 4194304
    let y := max (-2147483648) (min 2147483647 v)
    runSections (e :: rest) x =
      if e.bypass = true then
        (e :: (runSections rest x).1, (runSections rest x).2.1, (runSections rest x).2.2)
      else
        ({ e with x1 := x, x2 := e.x1, y1 := y, y2 := e.y1 } :: (runSections rest y).1, (runSections rest y).2.1,
          decide (y ≠ v) || (runSections rest y).2.2)

/-- A line cleared with applied delay D presents zero for the D samples that follow, and then the samples that entered D
periods earlier, in order (R16); the line keeps the model's canonical form (DESIGN CHOICE, log entry 22). -/
def Obligations.DelayLineRecalls : Prop :=
  ∀ (d : Nat) (entered : List Int) (x : Int), d ≤ 960 →
    let line := entered.foldl DelayLine.push ⟨d, []⟩
    line.wf = true ∧ line.applied = d ∧
      line.present x = if d = 0 then x else if entered.length < d then 0 else entered.getD (entered.length - d) 0

/-- The conversion table holds the nearest whole number to 2^20 × 10^(A/80) for every A from −479 to +48, and 0 for the mute
value (R44). -/
def Obligations.GainWordsAreRounded : Prop :=
  gainWord (-480) = 0 ∧ ∀ a : Int, -479 ≤ a → a ≤ 48 → gainWord a = round ((2 : ℝ) ^ 20 * (10 : ℝ) ^ ((a : ℝ) / 80))
end

