-- ==== Sys2Proof/Laws/DelayLine.lean ====
section
/-! SUPPORT. The delay lines keep their canonical form: a cleared line has it, and a sample that enters keeps it. -/

set_option Elab.async false

namespace Sys2Proof

open Sys2Proof.Machine

theorem DelayLine.cleared_wf (d : Nat) : DelayLine.wf ⟨d, []⟩ = true := rfl

/-- A line after a sample has entered is in canonical form, whatever it held. -/
theorem DelayLine.push_wf (l : DelayLine) (x : Int) : (l.push x).wf = true := by
  have hle : (l.push x).samples.length ≤ 960 :=
    (List.rdropWhile_prefix (p := fun v : Int => decide (v = 0)) _).length_le.trans (List.length_take_le _ _)
  have hlast : (l.push x).samples.getLast? ≠ some 0 := by
    intro h
    have hne : (l.push x).samples ≠ [] := by
      intro e
      simp [e] at h
    rw [List.getLast?_eq_some_getLast hne] at h
    exact List.rdropWhile_last_not (fun v : Int => decide (v = 0)) _ hne (decide_eq_true (Option.some.inj h))
  simp [DelayLine.wf, hle, hlast]

@[simp] theorem DelayLine.push_applied (l : DelayLine) (x : Int) : (l.push x).applied = l.applied := rfl

end Sys2Proof
end

