-- ==== Sys2Proof/Laws/State.lean ====
section
/-! SUPPORT. One lemma per field per update of State, so that no proof unfolds an update. -/

set_option Elab.async false

namespace Sys2Proof.Machine

@[simp] theorem State.withTables_tables (s : State) (v : Tables) : (s.withTables v).tables = v := rfl
@[simp] theorem State.withTables_planner (s : State) (v : Tables) : (s.withTables v).planner = s.planner := rfl
@[simp] theorem State.withTables_mixer (s : State) (v : Tables) : (s.withTables v).mixer = s.mixer := rfl
@[simp] theorem State.withTables_ramp (s : State) (v : Tables) : (s.withTables v).ramp = s.ramp := rfl
@[simp] theorem State.withTables_output (s : State) (v : Tables) : (s.withTables v).output = s.output := rfl
@[simp] theorem State.withTables_lines (s : State) (v : Tables) : (s.withTables v).lines = s.lines := rfl
@[simp] theorem State.withTables_eq (s : State) (v : Tables) : (s.withTables v).eq = s.eq := rfl
@[simp] theorem State.withTables_tracker (s : State) (v : Tables) : (s.withTables v).tracker = s.tracker := rfl
@[simp] theorem State.withTables_arbiter (s : State) (v : Tables) : (s.withTables v).arbiter = s.arbiter := rfl
@[simp] theorem State.withTables_supply (s : State) (v : Tables) : (s.withTables v).supply = s.supply := rfl
@[simp] theorem State.withTables_integrity (s : State) (v : Tables) : (s.withTables v).integrity = s.integrity := rfl
@[simp] theorem State.withTables_read (s : State) (v : Tables) : (s.withTables v).read = s.read := rfl
@[simp] theorem State.withTables_store (s : State) (v : Tables) : (s.withTables v).store = s.store := rfl
@[simp] theorem State.withTables_patches (s : State) (v : Tables) : (s.withTables v).patches = s.patches := rfl
@[simp] theorem State.withTables_startup (s : State) (v : Tables) : (s.withTables v).startup = s.startup := rfl
@[simp] theorem State.withTables_record (s : State) (v : Tables) : (s.withTables v).record = s.record := rfl
@[simp] theorem State.withTables_hold (s : State) (v : Tables) : (s.withTables v).hold = s.hold := rfl
@[simp] theorem State.withTables_link (s : State) (v : Tables) : (s.withTables v).link = s.link := rfl
@[simp] theorem State.withTables_audio (s : State) (v : Tables) : (s.withTables v).audio = s.audio := rfl
@[simp] theorem State.withTables_draws (s : State) (v : Tables) : (s.withTables v).draws = s.draws := rfl
@[simp] theorem State.withTables_pending (s : State) (v : Tables) : (s.withTables v).pending = s.pending := rfl
@[simp] theorem State.withTables_received (s : State) (v : Tables) : (s.withTables v).received = s.received := rfl

@[simp] theorem State.withPlanner_tables (s : State) (v : Planner) : (s.withPlanner v).tables = s.tables := rfl
@[simp] theorem State.withPlanner_planner (s : State) (v : Planner) : (s.withPlanner v).planner = v := rfl
@[simp] theorem State.withPlanner_mixer (s : State) (v : Planner) : (s.withPlanner v).mixer = s.mixer := rfl
@[simp] theorem State.withPlanner_ramp (s : State) (v : Planner) : (s.withPlanner v).ramp = s.ramp := rfl
@[simp] theorem State.withPlanner_output (s : State) (v : Planner) : (s.withPlanner v).output = s.output := rfl
@[simp] theorem State.withPlanner_lines (s : State) (v : Planner) : (s.withPlanner v).lines = s.lines := rfl
@[simp] theorem State.withPlanner_eq (s : State) (v : Planner) : (s.withPlanner v).eq = s.eq := rfl
@[simp] theorem State.withPlanner_tracker (s : State) (v : Planner) : (s.withPlanner v).tracker = s.tracker := rfl
@[simp] theorem State.withPlanner_arbiter (s : State) (v : Planner) : (s.withPlanner v).arbiter = s.arbiter := rfl
@[simp] theorem State.withPlanner_supply (s : State) (v : Planner) : (s.withPlanner v).supply = s.supply := rfl
@[simp] theorem State.withPlanner_integrity (s : State) (v : Planner) : (s.withPlanner v).integrity = s.integrity := rfl
@[simp] theorem State.withPlanner_read (s : State) (v : Planner) : (s.withPlanner v).read = s.read := rfl
@[simp] theorem State.withPlanner_store (s : State) (v : Planner) : (s.withPlanner v).store = s.store := rfl
@[simp] theorem State.withPlanner_patches (s : State) (v : Planner) : (s.withPlanner v).patches = s.patches := rfl
@[simp] theorem State.withPlanner_startup (s : State) (v : Planner) : (s.withPlanner v).startup = s.startup := rfl
@[simp] theorem State.withPlanner_record (s : State) (v : Planner) : (s.withPlanner v).record = s.record := rfl
@[simp] theorem State.withPlanner_hold (s : State) (v : Planner) : (s.withPlanner v).hold = s.hold := rfl
@[simp] theorem State.withPlanner_link (s : State) (v : Planner) : (s.withPlanner v).link = s.link := rfl
@[simp] theorem State.withPlanner_audio (s : State) (v : Planner) : (s.withPlanner v).audio = s.audio := rfl
@[simp] theorem State.withPlanner_draws (s : State) (v : Planner) : (s.withPlanner v).draws = s.draws := rfl
@[simp] theorem State.withPlanner_pending (s : State) (v : Planner) : (s.withPlanner v).pending = s.pending := rfl
@[simp] theorem State.withPlanner_received (s : State) (v : Planner) : (s.withPlanner v).received = s.received := rfl

@[simp] theorem State.withMixer_tables (s : State) (v : List MixChan) : (s.withMixer v).tables = s.tables := rfl
@[simp] theorem State.withMixer_planner (s : State) (v : List MixChan) : (s.withMixer v).planner = s.planner := rfl
@[simp] theorem State.withMixer_mixer (s : State) (v : List MixChan) : (s.withMixer v).mixer = v := rfl
@[simp] theorem State.withMixer_ramp (s : State) (v : List MixChan) : (s.withMixer v).ramp = s.ramp := rfl
@[simp] theorem State.withMixer_output (s : State) (v : List MixChan) : (s.withMixer v).output = s.output := rfl
@[simp] theorem State.withMixer_lines (s : State) (v : List MixChan) : (s.withMixer v).lines = s.lines := rfl
@[simp] theorem State.withMixer_eq (s : State) (v : List MixChan) : (s.withMixer v).eq = s.eq := rfl
@[simp] theorem State.withMixer_tracker (s : State) (v : List MixChan) : (s.withMixer v).tracker = s.tracker := rfl
@[simp] theorem State.withMixer_arbiter (s : State) (v : List MixChan) : (s.withMixer v).arbiter = s.arbiter := rfl
@[simp] theorem State.withMixer_supply (s : State) (v : List MixChan) : (s.withMixer v).supply = s.supply := rfl
@[simp] theorem State.withMixer_integrity (s : State) (v : List MixChan) : (s.withMixer v).integrity = s.integrity := rfl
@[simp] theorem State.withMixer_read (s : State) (v : List MixChan) : (s.withMixer v).read = s.read := rfl
@[simp] theorem State.withMixer_store (s : State) (v : List MixChan) : (s.withMixer v).store = s.store := rfl
@[simp] theorem State.withMixer_patches (s : State) (v : List MixChan) : (s.withMixer v).patches = s.patches := rfl
@[simp] theorem State.withMixer_startup (s : State) (v : List MixChan) : (s.withMixer v).startup = s.startup := rfl
@[simp] theorem State.withMixer_record (s : State) (v : List MixChan) : (s.withMixer v).record = s.record := rfl
@[simp] theorem State.withMixer_hold (s : State) (v : List MixChan) : (s.withMixer v).hold = s.hold := rfl
@[simp] theorem State.withMixer_link (s : State) (v : List MixChan) : (s.withMixer v).link = s.link := rfl
@[simp] theorem State.withMixer_audio (s : State) (v : List MixChan) : (s.withMixer v).audio = s.audio := rfl
@[simp] theorem State.withMixer_draws (s : State) (v : List MixChan) : (s.withMixer v).draws = s.draws := rfl
@[simp] theorem State.withMixer_pending (s : State) (v : List MixChan) : (s.withMixer v).pending = s.pending := rfl
@[simp] theorem State.withMixer_received (s : State) (v : List MixChan) : (s.withMixer v).received = s.received := rfl

@[simp] theorem State.withRamp_tables (s : State) (v : Ramp) : (s.withRamp v).tables = s.tables := rfl
@[simp] theorem State.withRamp_planner (s : State) (v : Ramp) : (s.withRamp v).planner = s.planner := rfl
@[simp] theorem State.withRamp_mixer (s : State) (v : Ramp) : (s.withRamp v).mixer = s.mixer := rfl
@[simp] theorem State.withRamp_ramp (s : State) (v : Ramp) : (s.withRamp v).ramp = v := rfl
@[simp] theorem State.withRamp_output (s : State) (v : Ramp) : (s.withRamp v).output = s.output := rfl
@[simp] theorem State.withRamp_lines (s : State) (v : Ramp) : (s.withRamp v).lines = s.lines := rfl
@[simp] theorem State.withRamp_eq (s : State) (v : Ramp) : (s.withRamp v).eq = s.eq := rfl
@[simp] theorem State.withRamp_tracker (s : State) (v : Ramp) : (s.withRamp v).tracker = s.tracker := rfl
@[simp] theorem State.withRamp_arbiter (s : State) (v : Ramp) : (s.withRamp v).arbiter = s.arbiter := rfl
@[simp] theorem State.withRamp_supply (s : State) (v : Ramp) : (s.withRamp v).supply = s.supply := rfl
@[simp] theorem State.withRamp_integrity (s : State) (v : Ramp) : (s.withRamp v).integrity = s.integrity := rfl
@[simp] theorem State.withRamp_read (s : State) (v : Ramp) : (s.withRamp v).read = s.read := rfl
@[simp] theorem State.withRamp_store (s : State) (v : Ramp) : (s.withRamp v).store = s.store := rfl
@[simp] theorem State.withRamp_patches (s : State) (v : Ramp) : (s.withRamp v).patches = s.patches := rfl
@[simp] theorem State.withRamp_startup (s : State) (v : Ramp) : (s.withRamp v).startup = s.startup := rfl
@[simp] theorem State.withRamp_record (s : State) (v : Ramp) : (s.withRamp v).record = s.record := rfl
@[simp] theorem State.withRamp_hold (s : State) (v : Ramp) : (s.withRamp v).hold = s.hold := rfl
@[simp] theorem State.withRamp_link (s : State) (v : Ramp) : (s.withRamp v).link = s.link := rfl
@[simp] theorem State.withRamp_audio (s : State) (v : Ramp) : (s.withRamp v).audio = s.audio := rfl
@[simp] theorem State.withRamp_draws (s : State) (v : Ramp) : (s.withRamp v).draws = s.draws := rfl
@[simp] theorem State.withRamp_pending (s : State) (v : Ramp) : (s.withRamp v).pending = s.pending := rfl
@[simp] theorem State.withRamp_received (s : State) (v : Ramp) : (s.withRamp v).received = s.received := rfl

@[simp] theorem State.withOutput_tables (s : State) (v : List OutChan) : (s.withOutput v).tables = s.tables := rfl
@[simp] theorem State.withOutput_planner (s : State) (v : List OutChan) : (s.withOutput v).planner = s.planner := rfl
@[simp] theorem State.withOutput_mixer (s : State) (v : List OutChan) : (s.withOutput v).mixer = s.mixer := rfl
@[simp] theorem State.withOutput_ramp (s : State) (v : List OutChan) : (s.withOutput v).ramp = s.ramp := rfl
@[simp] theorem State.withOutput_output (s : State) (v : List OutChan) : (s.withOutput v).output = v := rfl
@[simp] theorem State.withOutput_lines (s : State) (v : List OutChan) : (s.withOutput v).lines = s.lines := rfl
@[simp] theorem State.withOutput_eq (s : State) (v : List OutChan) : (s.withOutput v).eq = s.eq := rfl
@[simp] theorem State.withOutput_tracker (s : State) (v : List OutChan) : (s.withOutput v).tracker = s.tracker := rfl
@[simp] theorem State.withOutput_arbiter (s : State) (v : List OutChan) : (s.withOutput v).arbiter = s.arbiter := rfl
@[simp] theorem State.withOutput_supply (s : State) (v : List OutChan) : (s.withOutput v).supply = s.supply := rfl
@[simp] theorem State.withOutput_integrity (s : State) (v : List OutChan) : (s.withOutput v).integrity = s.integrity := rfl
@[simp] theorem State.withOutput_read (s : State) (v : List OutChan) : (s.withOutput v).read = s.read := rfl
@[simp] theorem State.withOutput_store (s : State) (v : List OutChan) : (s.withOutput v).store = s.store := rfl
@[simp] theorem State.withOutput_patches (s : State) (v : List OutChan) : (s.withOutput v).patches = s.patches := rfl
@[simp] theorem State.withOutput_startup (s : State) (v : List OutChan) : (s.withOutput v).startup = s.startup := rfl
@[simp] theorem State.withOutput_record (s : State) (v : List OutChan) : (s.withOutput v).record = s.record := rfl
@[simp] theorem State.withOutput_hold (s : State) (v : List OutChan) : (s.withOutput v).hold = s.hold := rfl
@[simp] theorem State.withOutput_link (s : State) (v : List OutChan) : (s.withOutput v).link = s.link := rfl
@[simp] theorem State.withOutput_audio (s : State) (v : List OutChan) : (s.withOutput v).audio = s.audio := rfl
@[simp] theorem State.withOutput_draws (s : State) (v : List OutChan) : (s.withOutput v).draws = s.draws := rfl
@[simp] theorem State.withOutput_pending (s : State) (v : List OutChan) : (s.withOutput v).pending = s.pending := rfl
@[simp] theorem State.withOutput_received (s : State) (v : List OutChan) : (s.withOutput v).received = s.received := rfl

@[simp] theorem State.withLines_tables (s : State) (v : List DelayLine) : (s.withLines v).tables = s.tables := rfl
@[simp] theorem State.withLines_planner (s : State) (v : List DelayLine) : (s.withLines v).planner = s.planner := rfl
@[simp] theorem State.withLines_mixer (s : State) (v : List DelayLine) : (s.withLines v).mixer = s.mixer := rfl
@[simp] theorem State.withLines_ramp (s : State) (v : List DelayLine) : (s.withLines v).ramp = s.ramp := rfl
@[simp] theorem State.withLines_output (s : State) (v : List DelayLine) : (s.withLines v).output = s.output := rfl
@[simp] theorem State.withLines_lines (s : State) (v : List DelayLine) : (s.withLines v).lines = v := rfl
@[simp] theorem State.withLines_eq (s : State) (v : List DelayLine) : (s.withLines v).eq = s.eq := rfl
@[simp] theorem State.withLines_tracker (s : State) (v : List DelayLine) : (s.withLines v).tracker = s.tracker := rfl
@[simp] theorem State.withLines_arbiter (s : State) (v : List DelayLine) : (s.withLines v).arbiter = s.arbiter := rfl
@[simp] theorem State.withLines_supply (s : State) (v : List DelayLine) : (s.withLines v).supply = s.supply := rfl
@[simp] theorem State.withLines_integrity (s : State) (v : List DelayLine) : (s.withLines v).integrity = s.integrity := rfl
@[simp] theorem State.withLines_read (s : State) (v : List DelayLine) : (s.withLines v).read = s.read := rfl
@[simp] theorem State.withLines_store (s : State) (v : List DelayLine) : (s.withLines v).store = s.store := rfl
@[simp] theorem State.withLines_patches (s : State) (v : List DelayLine) : (s.withLines v).patches = s.patches := rfl
@[simp] theorem State.withLines_startup (s : State) (v : List DelayLine) : (s.withLines v).startup = s.startup := rfl
@[simp] theorem State.withLines_record (s : State) (v : List DelayLine) : (s.withLines v).record = s.record := rfl
@[simp] theorem State.withLines_hold (s : State) (v : List DelayLine) : (s.withLines v).hold = s.hold := rfl
@[simp] theorem State.withLines_link (s : State) (v : List DelayLine) : (s.withLines v).link = s.link := rfl
@[simp] theorem State.withLines_audio (s : State) (v : List DelayLine) : (s.withLines v).audio = s.audio := rfl
@[simp] theorem State.withLines_draws (s : State) (v : List DelayLine) : (s.withLines v).draws = s.draws := rfl
@[simp] theorem State.withLines_pending (s : State) (v : List DelayLine) : (s.withLines v).pending = s.pending := rfl
@[simp] theorem State.withLines_received (s : State) (v : List DelayLine) : (s.withLines v).received = s.received := rfl

@[simp] theorem State.withEq_tables (s : State) (v : List (List EqSection)) : (s.withEq v).tables = s.tables := rfl
@[simp] theorem State.withEq_planner (s : State) (v : List (List EqSection)) : (s.withEq v).planner = s.planner := rfl
@[simp] theorem State.withEq_mixer (s : State) (v : List (List EqSection)) : (s.withEq v).mixer = s.mixer := rfl
@[simp] theorem State.withEq_ramp (s : State) (v : List (List EqSection)) : (s.withEq v).ramp = s.ramp := rfl
@[simp] theorem State.withEq_output (s : State) (v : List (List EqSection)) : (s.withEq v).output = s.output := rfl
@[simp] theorem State.withEq_lines (s : State) (v : List (List EqSection)) : (s.withEq v).lines = s.lines := rfl
@[simp] theorem State.withEq_eq (s : State) (v : List (List EqSection)) : (s.withEq v).eq = v := rfl
@[simp] theorem State.withEq_tracker (s : State) (v : List (List EqSection)) : (s.withEq v).tracker = s.tracker := rfl
@[simp] theorem State.withEq_arbiter (s : State) (v : List (List EqSection)) : (s.withEq v).arbiter = s.arbiter := rfl
@[simp] theorem State.withEq_supply (s : State) (v : List (List EqSection)) : (s.withEq v).supply = s.supply := rfl
@[simp] theorem State.withEq_integrity (s : State) (v : List (List EqSection)) : (s.withEq v).integrity = s.integrity := rfl
@[simp] theorem State.withEq_read (s : State) (v : List (List EqSection)) : (s.withEq v).read = s.read := rfl
@[simp] theorem State.withEq_store (s : State) (v : List (List EqSection)) : (s.withEq v).store = s.store := rfl
@[simp] theorem State.withEq_patches (s : State) (v : List (List EqSection)) : (s.withEq v).patches = s.patches := rfl
@[simp] theorem State.withEq_startup (s : State) (v : List (List EqSection)) : (s.withEq v).startup = s.startup := rfl
@[simp] theorem State.withEq_record (s : State) (v : List (List EqSection)) : (s.withEq v).record = s.record := rfl
@[simp] theorem State.withEq_hold (s : State) (v : List (List EqSection)) : (s.withEq v).hold = s.hold := rfl
@[simp] theorem State.withEq_link (s : State) (v : List (List EqSection)) : (s.withEq v).link = s.link := rfl
@[simp] theorem State.withEq_audio (s : State) (v : List (List EqSection)) : (s.withEq v).audio = s.audio := rfl
@[simp] theorem State.withEq_draws (s : State) (v : List (List EqSection)) : (s.withEq v).draws = s.draws := rfl
@[simp] theorem State.withEq_pending (s : State) (v : List (List EqSection)) : (s.withEq v).pending = s.pending := rfl
@[simp] theorem State.withEq_received (s : State) (v : List (List EqSection)) : (s.withEq v).received = s.received := rfl

@[simp] theorem State.withTracker_tables (s : State) (v : Tracker) : (s.withTracker v).tables = s.tables := rfl
@[simp] theorem State.withTracker_planner (s : State) (v : Tracker) : (s.withTracker v).planner = s.planner := rfl
@[simp] theorem State.withTracker_mixer (s : State) (v : Tracker) : (s.withTracker v).mixer = s.mixer := rfl
@[simp] theorem State.withTracker_ramp (s : State) (v : Tracker) : (s.withTracker v).ramp = s.ramp := rfl
@[simp] theorem State.withTracker_output (s : State) (v : Tracker) : (s.withTracker v).output = s.output := rfl
@[simp] theorem State.withTracker_lines (s : State) (v : Tracker) : (s.withTracker v).lines = s.lines := rfl
@[simp] theorem State.withTracker_eq (s : State) (v : Tracker) : (s.withTracker v).eq = s.eq := rfl
@[simp] theorem State.withTracker_tracker (s : State) (v : Tracker) : (s.withTracker v).tracker = v := rfl
@[simp] theorem State.withTracker_arbiter (s : State) (v : Tracker) : (s.withTracker v).arbiter = s.arbiter := rfl
@[simp] theorem State.withTracker_supply (s : State) (v : Tracker) : (s.withTracker v).supply = s.supply := rfl
@[simp] theorem State.withTracker_integrity (s : State) (v : Tracker) : (s.withTracker v).integrity = s.integrity := rfl
@[simp] theorem State.withTracker_read (s : State) (v : Tracker) : (s.withTracker v).read = s.read := rfl
@[simp] theorem State.withTracker_store (s : State) (v : Tracker) : (s.withTracker v).store = s.store := rfl
@[simp] theorem State.withTracker_patches (s : State) (v : Tracker) : (s.withTracker v).patches = s.patches := rfl
@[simp] theorem State.withTracker_startup (s : State) (v : Tracker) : (s.withTracker v).startup = s.startup := rfl
@[simp] theorem State.withTracker_record (s : State) (v : Tracker) : (s.withTracker v).record = s.record := rfl
@[simp] theorem State.withTracker_hold (s : State) (v : Tracker) : (s.withTracker v).hold = s.hold := rfl
@[simp] theorem State.withTracker_link (s : State) (v : Tracker) : (s.withTracker v).link = s.link := rfl
@[simp] theorem State.withTracker_audio (s : State) (v : Tracker) : (s.withTracker v).audio = s.audio := rfl
@[simp] theorem State.withTracker_draws (s : State) (v : Tracker) : (s.withTracker v).draws = s.draws := rfl
@[simp] theorem State.withTracker_pending (s : State) (v : Tracker) : (s.withTracker v).pending = s.pending := rfl
@[simp] theorem State.withTracker_received (s : State) (v : Tracker) : (s.withTracker v).received = s.received := rfl

@[simp] theorem State.withArbiter_tables (s : State) (v : Arbiter) : (s.withArbiter v).tables = s.tables := rfl
@[simp] theorem State.withArbiter_planner (s : State) (v : Arbiter) : (s.withArbiter v).planner = s.planner := rfl
@[simp] theorem State.withArbiter_mixer (s : State) (v : Arbiter) : (s.withArbiter v).mixer = s.mixer := rfl
@[simp] theorem State.withArbiter_ramp (s : State) (v : Arbiter) : (s.withArbiter v).ramp = s.ramp := rfl
@[simp] theorem State.withArbiter_output (s : State) (v : Arbiter) : (s.withArbiter v).output = s.output := rfl
@[simp] theorem State.withArbiter_lines (s : State) (v : Arbiter) : (s.withArbiter v).lines = s.lines := rfl
@[simp] theorem State.withArbiter_eq (s : State) (v : Arbiter) : (s.withArbiter v).eq = s.eq := rfl
@[simp] theorem State.withArbiter_tracker (s : State) (v : Arbiter) : (s.withArbiter v).tracker = s.tracker := rfl
@[simp] theorem State.withArbiter_arbiter (s : State) (v : Arbiter) : (s.withArbiter v).arbiter = v := rfl
@[simp] theorem State.withArbiter_supply (s : State) (v : Arbiter) : (s.withArbiter v).supply = s.supply := rfl
@[simp] theorem State.withArbiter_integrity (s : State) (v : Arbiter) : (s.withArbiter v).integrity = s.integrity := rfl
@[simp] theorem State.withArbiter_read (s : State) (v : Arbiter) : (s.withArbiter v).read = s.read := rfl
@[simp] theorem State.withArbiter_store (s : State) (v : Arbiter) : (s.withArbiter v).store = s.store := rfl
@[simp] theorem State.withArbiter_patches (s : State) (v : Arbiter) : (s.withArbiter v).patches = s.patches := rfl
@[simp] theorem State.withArbiter_startup (s : State) (v : Arbiter) : (s.withArbiter v).startup = s.startup := rfl
@[simp] theorem State.withArbiter_record (s : State) (v : Arbiter) : (s.withArbiter v).record = s.record := rfl
@[simp] theorem State.withArbiter_hold (s : State) (v : Arbiter) : (s.withArbiter v).hold = s.hold := rfl
@[simp] theorem State.withArbiter_link (s : State) (v : Arbiter) : (s.withArbiter v).link = s.link := rfl
@[simp] theorem State.withArbiter_audio (s : State) (v : Arbiter) : (s.withArbiter v).audio = s.audio := rfl
@[simp] theorem State.withArbiter_draws (s : State) (v : Arbiter) : (s.withArbiter v).draws = s.draws := rfl
@[simp] theorem State.withArbiter_pending (s : State) (v : Arbiter) : (s.withArbiter v).pending = s.pending := rfl
@[simp] theorem State.withArbiter_received (s : State) (v : Arbiter) : (s.withArbiter v).received = s.received := rfl

@[simp] theorem State.withSupply_tables (s : State) (v : Supply) : (s.withSupply v).tables = s.tables := rfl
@[simp] theorem State.withSupply_planner (s : State) (v : Supply) : (s.withSupply v).planner = s.planner := rfl
@[simp] theorem State.withSupply_mixer (s : State) (v : Supply) : (s.withSupply v).mixer = s.mixer := rfl
@[simp] theorem State.withSupply_ramp (s : State) (v : Supply) : (s.withSupply v).ramp = s.ramp := rfl
@[simp] theorem State.withSupply_output (s : State) (v : Supply) : (s.withSupply v).output = s.output := rfl
@[simp] theorem State.withSupply_lines (s : State) (v : Supply) : (s.withSupply v).lines = s.lines := rfl
@[simp] theorem State.withSupply_eq (s : State) (v : Supply) : (s.withSupply v).eq = s.eq := rfl
@[simp] theorem State.withSupply_tracker (s : State) (v : Supply) : (s.withSupply v).tracker = s.tracker := rfl
@[simp] theorem State.withSupply_arbiter (s : State) (v : Supply) : (s.withSupply v).arbiter = s.arbiter := rfl
@[simp] theorem State.withSupply_supply (s : State) (v : Supply) : (s.withSupply v).supply = v := rfl
@[simp] theorem State.withSupply_integrity (s : State) (v : Supply) : (s.withSupply v).integrity = s.integrity := rfl
@[simp] theorem State.withSupply_read (s : State) (v : Supply) : (s.withSupply v).read = s.read := rfl
@[simp] theorem State.withSupply_store (s : State) (v : Supply) : (s.withSupply v).store = s.store := rfl
@[simp] theorem State.withSupply_patches (s : State) (v : Supply) : (s.withSupply v).patches = s.patches := rfl
@[simp] theorem State.withSupply_startup (s : State) (v : Supply) : (s.withSupply v).startup = s.startup := rfl
@[simp] theorem State.withSupply_record (s : State) (v : Supply) : (s.withSupply v).record = s.record := rfl
@[simp] theorem State.withSupply_hold (s : State) (v : Supply) : (s.withSupply v).hold = s.hold := rfl
@[simp] theorem State.withSupply_link (s : State) (v : Supply) : (s.withSupply v).link = s.link := rfl
@[simp] theorem State.withSupply_audio (s : State) (v : Supply) : (s.withSupply v).audio = s.audio := rfl
@[simp] theorem State.withSupply_draws (s : State) (v : Supply) : (s.withSupply v).draws = s.draws := rfl
@[simp] theorem State.withSupply_pending (s : State) (v : Supply) : (s.withSupply v).pending = s.pending := rfl
@[simp] theorem State.withSupply_received (s : State) (v : Supply) : (s.withSupply v).received = s.received := rfl

@[simp] theorem State.withIntegrity_tables (s : State) (v : Integrity) : (s.withIntegrity v).tables = s.tables := rfl
@[simp] theorem State.withIntegrity_planner (s : State) (v : Integrity) : (s.withIntegrity v).planner = s.planner := rfl
@[simp] theorem State.withIntegrity_mixer (s : State) (v : Integrity) : (s.withIntegrity v).mixer = s.mixer := rfl
@[simp] theorem State.withIntegrity_ramp (s : State) (v : Integrity) : (s.withIntegrity v).ramp = s.ramp := rfl
@[simp] theorem State.withIntegrity_output (s : State) (v : Integrity) : (s.withIntegrity v).output = s.output := rfl
@[simp] theorem State.withIntegrity_lines (s : State) (v : Integrity) : (s.withIntegrity v).lines = s.lines := rfl
@[simp] theorem State.withIntegrity_eq (s : State) (v : Integrity) : (s.withIntegrity v).eq = s.eq := rfl
@[simp] theorem State.withIntegrity_tracker (s : State) (v : Integrity) : (s.withIntegrity v).tracker = s.tracker := rfl
@[simp] theorem State.withIntegrity_arbiter (s : State) (v : Integrity) : (s.withIntegrity v).arbiter = s.arbiter := rfl
@[simp] theorem State.withIntegrity_supply (s : State) (v : Integrity) : (s.withIntegrity v).supply = s.supply := rfl
@[simp] theorem State.withIntegrity_integrity (s : State) (v : Integrity) : (s.withIntegrity v).integrity = v := rfl
@[simp] theorem State.withIntegrity_read (s : State) (v : Integrity) : (s.withIntegrity v).read = s.read := rfl
@[simp] theorem State.withIntegrity_store (s : State) (v : Integrity) : (s.withIntegrity v).store = s.store := rfl
@[simp] theorem State.withIntegrity_patches (s : State) (v : Integrity) : (s.withIntegrity v).patches = s.patches := rfl
@[simp] theorem State.withIntegrity_startup (s : State) (v : Integrity) : (s.withIntegrity v).startup = s.startup := rfl
@[simp] theorem State.withIntegrity_record (s : State) (v : Integrity) : (s.withIntegrity v).record = s.record := rfl
@[simp] theorem State.withIntegrity_hold (s : State) (v : Integrity) : (s.withIntegrity v).hold = s.hold := rfl
@[simp] theorem State.withIntegrity_link (s : State) (v : Integrity) : (s.withIntegrity v).link = s.link := rfl
@[simp] theorem State.withIntegrity_audio (s : State) (v : Integrity) : (s.withIntegrity v).audio = s.audio := rfl
@[simp] theorem State.withIntegrity_draws (s : State) (v : Integrity) : (s.withIntegrity v).draws = s.draws := rfl
@[simp] theorem State.withIntegrity_pending (s : State) (v : Integrity) : (s.withIntegrity v).pending = s.pending := rfl
@[simp] theorem State.withIntegrity_received (s : State) (v : Integrity) : (s.withIntegrity v).received = s.received := rfl

@[simp] theorem State.withRead_tables (s : State) (v : Option ReadRec) : (s.withRead v).tables = s.tables := rfl
@[simp] theorem State.withRead_planner (s : State) (v : Option ReadRec) : (s.withRead v).planner = s.planner := rfl
@[simp] theorem State.withRead_mixer (s : State) (v : Option ReadRec) : (s.withRead v).mixer = s.mixer := rfl
@[simp] theorem State.withRead_ramp (s : State) (v : Option ReadRec) : (s.withRead v).ramp = s.ramp := rfl
@[simp] theorem State.withRead_output (s : State) (v : Option ReadRec) : (s.withRead v).output = s.output := rfl
@[simp] theorem State.withRead_lines (s : State) (v : Option ReadRec) : (s.withRead v).lines = s.lines := rfl
@[simp] theorem State.withRead_eq (s : State) (v : Option ReadRec) : (s.withRead v).eq = s.eq := rfl
@[simp] theorem State.withRead_tracker (s : State) (v : Option ReadRec) : (s.withRead v).tracker = s.tracker := rfl
@[simp] theorem State.withRead_arbiter (s : State) (v : Option ReadRec) : (s.withRead v).arbiter = s.arbiter := rfl
@[simp] theorem State.withRead_supply (s : State) (v : Option ReadRec) : (s.withRead v).supply = s.supply := rfl
@[simp] theorem State.withRead_integrity (s : State) (v : Option ReadRec) : (s.withRead v).integrity = s.integrity := rfl
@[simp] theorem State.withRead_read (s : State) (v : Option ReadRec) : (s.withRead v).read = v := rfl
@[simp] theorem State.withRead_store (s : State) (v : Option ReadRec) : (s.withRead v).store = s.store := rfl
@[simp] theorem State.withRead_patches (s : State) (v : Option ReadRec) : (s.withRead v).patches = s.patches := rfl
@[simp] theorem State.withRead_startup (s : State) (v : Option ReadRec) : (s.withRead v).startup = s.startup := rfl
@[simp] theorem State.withRead_record (s : State) (v : Option ReadRec) : (s.withRead v).record = s.record := rfl
@[simp] theorem State.withRead_hold (s : State) (v : Option ReadRec) : (s.withRead v).hold = s.hold := rfl
@[simp] theorem State.withRead_link (s : State) (v : Option ReadRec) : (s.withRead v).link = s.link := rfl
@[simp] theorem State.withRead_audio (s : State) (v : Option ReadRec) : (s.withRead v).audio = s.audio := rfl
@[simp] theorem State.withRead_draws (s : State) (v : Option ReadRec) : (s.withRead v).draws = s.draws := rfl
@[simp] theorem State.withRead_pending (s : State) (v : Option ReadRec) : (s.withRead v).pending = s.pending := rfl
@[simp] theorem State.withRead_received (s : State) (v : Option ReadRec) : (s.withRead v).received = s.received := rfl

@[simp] theorem State.withStore_tables (s : State) (v : Store) : (s.withStore v).tables = s.tables := rfl
@[simp] theorem State.withStore_planner (s : State) (v : Store) : (s.withStore v).planner = s.planner := rfl
@[simp] theorem State.withStore_mixer (s : State) (v : Store) : (s.withStore v).mixer = s.mixer := rfl
@[simp] theorem State.withStore_ramp (s : State) (v : Store) : (s.withStore v).ramp = s.ramp := rfl
@[simp] theorem State.withStore_output (s : State) (v : Store) : (s.withStore v).output = s.output := rfl
@[simp] theorem State.withStore_lines (s : State) (v : Store) : (s.withStore v).lines = s.lines := rfl
@[simp] theorem State.withStore_eq (s : State) (v : Store) : (s.withStore v).eq = s.eq := rfl
@[simp] theorem State.withStore_tracker (s : State) (v : Store) : (s.withStore v).tracker = s.tracker := rfl
@[simp] theorem State.withStore_arbiter (s : State) (v : Store) : (s.withStore v).arbiter = s.arbiter := rfl
@[simp] theorem State.withStore_supply (s : State) (v : Store) : (s.withStore v).supply = s.supply := rfl
@[simp] theorem State.withStore_integrity (s : State) (v : Store) : (s.withStore v).integrity = s.integrity := rfl
@[simp] theorem State.withStore_read (s : State) (v : Store) : (s.withStore v).read = s.read := rfl
@[simp] theorem State.withStore_store (s : State) (v : Store) : (s.withStore v).store = v := rfl
@[simp] theorem State.withStore_patches (s : State) (v : Store) : (s.withStore v).patches = s.patches := rfl
@[simp] theorem State.withStore_startup (s : State) (v : Store) : (s.withStore v).startup = s.startup := rfl
@[simp] theorem State.withStore_record (s : State) (v : Store) : (s.withStore v).record = s.record := rfl
@[simp] theorem State.withStore_hold (s : State) (v : Store) : (s.withStore v).hold = s.hold := rfl
@[simp] theorem State.withStore_link (s : State) (v : Store) : (s.withStore v).link = s.link := rfl
@[simp] theorem State.withStore_audio (s : State) (v : Store) : (s.withStore v).audio = s.audio := rfl
@[simp] theorem State.withStore_draws (s : State) (v : Store) : (s.withStore v).draws = s.draws := rfl
@[simp] theorem State.withStore_pending (s : State) (v : Store) : (s.withStore v).pending = s.pending := rfl
@[simp] theorem State.withStore_received (s : State) (v : Store) : (s.withStore v).received = s.received := rfl

@[simp] theorem State.withPatches_tables (s : State) (v : List PatchRec) : (s.withPatches v).tables = s.tables := rfl
@[simp] theorem State.withPatches_planner (s : State) (v : List PatchRec) : (s.withPatches v).planner = s.planner := rfl
@[simp] theorem State.withPatches_mixer (s : State) (v : List PatchRec) : (s.withPatches v).mixer = s.mixer := rfl
@[simp] theorem State.withPatches_ramp (s : State) (v : List PatchRec) : (s.withPatches v).ramp = s.ramp := rfl
@[simp] theorem State.withPatches_output (s : State) (v : List PatchRec) : (s.withPatches v).output = s.output := rfl
@[simp] theorem State.withPatches_lines (s : State) (v : List PatchRec) : (s.withPatches v).lines = s.lines := rfl
@[simp] theorem State.withPatches_eq (s : State) (v : List PatchRec) : (s.withPatches v).eq = s.eq := rfl
@[simp] theorem State.withPatches_tracker (s : State) (v : List PatchRec) : (s.withPatches v).tracker = s.tracker := rfl
@[simp] theorem State.withPatches_arbiter (s : State) (v : List PatchRec) : (s.withPatches v).arbiter = s.arbiter := rfl
@[simp] theorem State.withPatches_supply (s : State) (v : List PatchRec) : (s.withPatches v).supply = s.supply := rfl
@[simp] theorem State.withPatches_integrity (s : State) (v : List PatchRec) : (s.withPatches v).integrity = s.integrity := rfl
@[simp] theorem State.withPatches_read (s : State) (v : List PatchRec) : (s.withPatches v).read = s.read := rfl
@[simp] theorem State.withPatches_store (s : State) (v : List PatchRec) : (s.withPatches v).store = s.store := rfl
@[simp] theorem State.withPatches_patches (s : State) (v : List PatchRec) : (s.withPatches v).patches = v := rfl
@[simp] theorem State.withPatches_startup (s : State) (v : List PatchRec) : (s.withPatches v).startup = s.startup := rfl
@[simp] theorem State.withPatches_record (s : State) (v : List PatchRec) : (s.withPatches v).record = s.record := rfl
@[simp] theorem State.withPatches_hold (s : State) (v : List PatchRec) : (s.withPatches v).hold = s.hold := rfl
@[simp] theorem State.withPatches_link (s : State) (v : List PatchRec) : (s.withPatches v).link = s.link := rfl
@[simp] theorem State.withPatches_audio (s : State) (v : List PatchRec) : (s.withPatches v).audio = s.audio := rfl
@[simp] theorem State.withPatches_draws (s : State) (v : List PatchRec) : (s.withPatches v).draws = s.draws := rfl
@[simp] theorem State.withPatches_pending (s : State) (v : List PatchRec) : (s.withPatches v).pending = s.pending := rfl
@[simp] theorem State.withPatches_received (s : State) (v : List PatchRec) : (s.withPatches v).received = s.received := rfl

@[simp] theorem State.withStartup_tables (s : State) (v : Startup) : (s.withStartup v).tables = s.tables := rfl
@[simp] theorem State.withStartup_planner (s : State) (v : Startup) : (s.withStartup v).planner = s.planner := rfl
@[simp] theorem State.withStartup_mixer (s : State) (v : Startup) : (s.withStartup v).mixer = s.mixer := rfl
@[simp] theorem State.withStartup_ramp (s : State) (v : Startup) : (s.withStartup v).ramp = s.ramp := rfl
@[simp] theorem State.withStartup_output (s : State) (v : Startup) : (s.withStartup v).output = s.output := rfl
@[simp] theorem State.withStartup_lines (s : State) (v : Startup) : (s.withStartup v).lines = s.lines := rfl
@[simp] theorem State.withStartup_eq (s : State) (v : Startup) : (s.withStartup v).eq = s.eq := rfl
@[simp] theorem State.withStartup_tracker (s : State) (v : Startup) : (s.withStartup v).tracker = s.tracker := rfl
@[simp] theorem State.withStartup_arbiter (s : State) (v : Startup) : (s.withStartup v).arbiter = s.arbiter := rfl
@[simp] theorem State.withStartup_supply (s : State) (v : Startup) : (s.withStartup v).supply = s.supply := rfl
@[simp] theorem State.withStartup_integrity (s : State) (v : Startup) : (s.withStartup v).integrity = s.integrity := rfl
@[simp] theorem State.withStartup_read (s : State) (v : Startup) : (s.withStartup v).read = s.read := rfl
@[simp] theorem State.withStartup_store (s : State) (v : Startup) : (s.withStartup v).store = s.store := rfl
@[simp] theorem State.withStartup_patches (s : State) (v : Startup) : (s.withStartup v).patches = s.patches := rfl
@[simp] theorem State.withStartup_startup (s : State) (v : Startup) : (s.withStartup v).startup = v := rfl
@[simp] theorem State.withStartup_record (s : State) (v : Startup) : (s.withStartup v).record = s.record := rfl
@[simp] theorem State.withStartup_hold (s : State) (v : Startup) : (s.withStartup v).hold = s.hold := rfl
@[simp] theorem State.withStartup_link (s : State) (v : Startup) : (s.withStartup v).link = s.link := rfl
@[simp] theorem State.withStartup_audio (s : State) (v : Startup) : (s.withStartup v).audio = s.audio := rfl
@[simp] theorem State.withStartup_draws (s : State) (v : Startup) : (s.withStartup v).draws = s.draws := rfl
@[simp] theorem State.withStartup_pending (s : State) (v : Startup) : (s.withStartup v).pending = s.pending := rfl
@[simp] theorem State.withStartup_received (s : State) (v : Startup) : (s.withStartup v).received = s.received := rfl

@[simp] theorem State.withRecord_tables (s : State) (v : ResetRecord) : (s.withRecord v).tables = s.tables := rfl
@[simp] theorem State.withRecord_planner (s : State) (v : ResetRecord) : (s.withRecord v).planner = s.planner := rfl
@[simp] theorem State.withRecord_mixer (s : State) (v : ResetRecord) : (s.withRecord v).mixer = s.mixer := rfl
@[simp] theorem State.withRecord_ramp (s : State) (v : ResetRecord) : (s.withRecord v).ramp = s.ramp := rfl
@[simp] theorem State.withRecord_output (s : State) (v : ResetRecord) : (s.withRecord v).output = s.output := rfl
@[simp] theorem State.withRecord_lines (s : State) (v : ResetRecord) : (s.withRecord v).lines = s.lines := rfl
@[simp] theorem State.withRecord_eq (s : State) (v : ResetRecord) : (s.withRecord v).eq = s.eq := rfl
@[simp] theorem State.withRecord_tracker (s : State) (v : ResetRecord) : (s.withRecord v).tracker = s.tracker := rfl
@[simp] theorem State.withRecord_arbiter (s : State) (v : ResetRecord) : (s.withRecord v).arbiter = s.arbiter := rfl
@[simp] theorem State.withRecord_supply (s : State) (v : ResetRecord) : (s.withRecord v).supply = s.supply := rfl
@[simp] theorem State.withRecord_integrity (s : State) (v : ResetRecord) : (s.withRecord v).integrity = s.integrity := rfl
@[simp] theorem State.withRecord_read (s : State) (v : ResetRecord) : (s.withRecord v).read = s.read := rfl
@[simp] theorem State.withRecord_store (s : State) (v : ResetRecord) : (s.withRecord v).store = s.store := rfl
@[simp] theorem State.withRecord_patches (s : State) (v : ResetRecord) : (s.withRecord v).patches = s.patches := rfl
@[simp] theorem State.withRecord_startup (s : State) (v : ResetRecord) : (s.withRecord v).startup = s.startup := rfl
@[simp] theorem State.withRecord_record (s : State) (v : ResetRecord) : (s.withRecord v).record = v := rfl
@[simp] theorem State.withRecord_hold (s : State) (v : ResetRecord) : (s.withRecord v).hold = s.hold := rfl
@[simp] theorem State.withRecord_link (s : State) (v : ResetRecord) : (s.withRecord v).link = s.link := rfl
@[simp] theorem State.withRecord_audio (s : State) (v : ResetRecord) : (s.withRecord v).audio = s.audio := rfl
@[simp] theorem State.withRecord_draws (s : State) (v : ResetRecord) : (s.withRecord v).draws = s.draws := rfl
@[simp] theorem State.withRecord_pending (s : State) (v : ResetRecord) : (s.withRecord v).pending = s.pending := rfl
@[simp] theorem State.withRecord_received (s : State) (v : ResetRecord) : (s.withRecord v).received = s.received := rfl

@[simp] theorem State.withHold_tables (s : State) (v : ResetHold) : (s.withHold v).tables = s.tables := rfl
@[simp] theorem State.withHold_planner (s : State) (v : ResetHold) : (s.withHold v).planner = s.planner := rfl
@[simp] theorem State.withHold_mixer (s : State) (v : ResetHold) : (s.withHold v).mixer = s.mixer := rfl
@[simp] theorem State.withHold_ramp (s : State) (v : ResetHold) : (s.withHold v).ramp = s.ramp := rfl
@[simp] theorem State.withHold_output (s : State) (v : ResetHold) : (s.withHold v).output = s.output := rfl
@[simp] theorem State.withHold_lines (s : State) (v : ResetHold) : (s.withHold v).lines = s.lines := rfl
@[simp] theorem State.withHold_eq (s : State) (v : ResetHold) : (s.withHold v).eq = s.eq := rfl
@[simp] theorem State.withHold_tracker (s : State) (v : ResetHold) : (s.withHold v).tracker = s.tracker := rfl
@[simp] theorem State.withHold_arbiter (s : State) (v : ResetHold) : (s.withHold v).arbiter = s.arbiter := rfl
@[simp] theorem State.withHold_supply (s : State) (v : ResetHold) : (s.withHold v).supply = s.supply := rfl
@[simp] theorem State.withHold_integrity (s : State) (v : ResetHold) : (s.withHold v).integrity = s.integrity := rfl
@[simp] theorem State.withHold_read (s : State) (v : ResetHold) : (s.withHold v).read = s.read := rfl
@[simp] theorem State.withHold_store (s : State) (v : ResetHold) : (s.withHold v).store = s.store := rfl
@[simp] theorem State.withHold_patches (s : State) (v : ResetHold) : (s.withHold v).patches = s.patches := rfl
@[simp] theorem State.withHold_startup (s : State) (v : ResetHold) : (s.withHold v).startup = s.startup := rfl
@[simp] theorem State.withHold_record (s : State) (v : ResetHold) : (s.withHold v).record = s.record := rfl
@[simp] theorem State.withHold_hold (s : State) (v : ResetHold) : (s.withHold v).hold = v := rfl
@[simp] theorem State.withHold_link (s : State) (v : ResetHold) : (s.withHold v).link = s.link := rfl
@[simp] theorem State.withHold_audio (s : State) (v : ResetHold) : (s.withHold v).audio = s.audio := rfl
@[simp] theorem State.withHold_draws (s : State) (v : ResetHold) : (s.withHold v).draws = s.draws := rfl
@[simp] theorem State.withHold_pending (s : State) (v : ResetHold) : (s.withHold v).pending = s.pending := rfl
@[simp] theorem State.withHold_received (s : State) (v : ResetHold) : (s.withHold v).received = s.received := rfl

@[simp] theorem State.withLink_tables (s : State) (v : Link) : (s.withLink v).tables = s.tables := rfl
@[simp] theorem State.withLink_planner (s : State) (v : Link) : (s.withLink v).planner = s.planner := rfl
@[simp] theorem State.withLink_mixer (s : State) (v : Link) : (s.withLink v).mixer = s.mixer := rfl
@[simp] theorem State.withLink_ramp (s : State) (v : Link) : (s.withLink v).ramp = s.ramp := rfl
@[simp] theorem State.withLink_output (s : State) (v : Link) : (s.withLink v).output = s.output := rfl
@[simp] theorem State.withLink_lines (s : State) (v : Link) : (s.withLink v).lines = s.lines := rfl
@[simp] theorem State.withLink_eq (s : State) (v : Link) : (s.withLink v).eq = s.eq := rfl
@[simp] theorem State.withLink_tracker (s : State) (v : Link) : (s.withLink v).tracker = s.tracker := rfl
@[simp] theorem State.withLink_arbiter (s : State) (v : Link) : (s.withLink v).arbiter = s.arbiter := rfl
@[simp] theorem State.withLink_supply (s : State) (v : Link) : (s.withLink v).supply = s.supply := rfl
@[simp] theorem State.withLink_integrity (s : State) (v : Link) : (s.withLink v).integrity = s.integrity := rfl
@[simp] theorem State.withLink_read (s : State) (v : Link) : (s.withLink v).read = s.read := rfl
@[simp] theorem State.withLink_store (s : State) (v : Link) : (s.withLink v).store = s.store := rfl
@[simp] theorem State.withLink_patches (s : State) (v : Link) : (s.withLink v).patches = s.patches := rfl
@[simp] theorem State.withLink_startup (s : State) (v : Link) : (s.withLink v).startup = s.startup := rfl
@[simp] theorem State.withLink_record (s : State) (v : Link) : (s.withLink v).record = s.record := rfl
@[simp] theorem State.withLink_hold (s : State) (v : Link) : (s.withLink v).hold = s.hold := rfl
@[simp] theorem State.withLink_link (s : State) (v : Link) : (s.withLink v).link = v := rfl
@[simp] theorem State.withLink_audio (s : State) (v : Link) : (s.withLink v).audio = s.audio := rfl
@[simp] theorem State.withLink_draws (s : State) (v : Link) : (s.withLink v).draws = s.draws := rfl
@[simp] theorem State.withLink_pending (s : State) (v : Link) : (s.withLink v).pending = s.pending := rfl
@[simp] theorem State.withLink_received (s : State) (v : Link) : (s.withLink v).received = s.received := rfl

@[simp] theorem State.withAudio_tables (s : State) (v : Audio) : (s.withAudio v).tables = s.tables := rfl
@[simp] theorem State.withAudio_planner (s : State) (v : Audio) : (s.withAudio v).planner = s.planner := rfl
@[simp] theorem State.withAudio_mixer (s : State) (v : Audio) : (s.withAudio v).mixer = s.mixer := rfl
@[simp] theorem State.withAudio_ramp (s : State) (v : Audio) : (s.withAudio v).ramp = s.ramp := rfl
@[simp] theorem State.withAudio_output (s : State) (v : Audio) : (s.withAudio v).output = s.output := rfl
@[simp] theorem State.withAudio_lines (s : State) (v : Audio) : (s.withAudio v).lines = s.lines := rfl
@[simp] theorem State.withAudio_eq (s : State) (v : Audio) : (s.withAudio v).eq = s.eq := rfl
@[simp] theorem State.withAudio_tracker (s : State) (v : Audio) : (s.withAudio v).tracker = s.tracker := rfl
@[simp] theorem State.withAudio_arbiter (s : State) (v : Audio) : (s.withAudio v).arbiter = s.arbiter := rfl
@[simp] theorem State.withAudio_supply (s : State) (v : Audio) : (s.withAudio v).supply = s.supply := rfl
@[simp] theorem State.withAudio_integrity (s : State) (v : Audio) : (s.withAudio v).integrity = s.integrity := rfl
@[simp] theorem State.withAudio_read (s : State) (v : Audio) : (s.withAudio v).read = s.read := rfl
@[simp] theorem State.withAudio_store (s : State) (v : Audio) : (s.withAudio v).store = s.store := rfl
@[simp] theorem State.withAudio_patches (s : State) (v : Audio) : (s.withAudio v).patches = s.patches := rfl
@[simp] theorem State.withAudio_startup (s : State) (v : Audio) : (s.withAudio v).startup = s.startup := rfl
@[simp] theorem State.withAudio_record (s : State) (v : Audio) : (s.withAudio v).record = s.record := rfl
@[simp] theorem State.withAudio_hold (s : State) (v : Audio) : (s.withAudio v).hold = s.hold := rfl
@[simp] theorem State.withAudio_link (s : State) (v : Audio) : (s.withAudio v).link = s.link := rfl
@[simp] theorem State.withAudio_audio (s : State) (v : Audio) : (s.withAudio v).audio = v := rfl
@[simp] theorem State.withAudio_draws (s : State) (v : Audio) : (s.withAudio v).draws = s.draws := rfl
@[simp] theorem State.withAudio_pending (s : State) (v : Audio) : (s.withAudio v).pending = s.pending := rfl
@[simp] theorem State.withAudio_received (s : State) (v : Audio) : (s.withAudio v).received = s.received := rfl

@[simp] theorem State.withDraws_tables (s : State) (v : Nat) : (s.withDraws v).tables = s.tables := rfl
@[simp] theorem State.withDraws_planner (s : State) (v : Nat) : (s.withDraws v).planner = s.planner := rfl
@[simp] theorem State.withDraws_mixer (s : State) (v : Nat) : (s.withDraws v).mixer = s.mixer := rfl
@[simp] theorem State.withDraws_ramp (s : State) (v : Nat) : (s.withDraws v).ramp = s.ramp := rfl
@[simp] theorem State.withDraws_output (s : State) (v : Nat) : (s.withDraws v).output = s.output := rfl
@[simp] theorem State.withDraws_lines (s : State) (v : Nat) : (s.withDraws v).lines = s.lines := rfl
@[simp] theorem State.withDraws_eq (s : State) (v : Nat) : (s.withDraws v).eq = s.eq := rfl
@[simp] theorem State.withDraws_tracker (s : State) (v : Nat) : (s.withDraws v).tracker = s.tracker := rfl
@[simp] theorem State.withDraws_arbiter (s : State) (v : Nat) : (s.withDraws v).arbiter = s.arbiter := rfl
@[simp] theorem State.withDraws_supply (s : State) (v : Nat) : (s.withDraws v).supply = s.supply := rfl
@[simp] theorem State.withDraws_integrity (s : State) (v : Nat) : (s.withDraws v).integrity = s.integrity := rfl
@[simp] theorem State.withDraws_read (s : State) (v : Nat) : (s.withDraws v).read = s.read := rfl
@[simp] theorem State.withDraws_store (s : State) (v : Nat) : (s.withDraws v).store = s.store := rfl
@[simp] theorem State.withDraws_patches (s : State) (v : Nat) : (s.withDraws v).patches = s.patches := rfl
@[simp] theorem State.withDraws_startup (s : State) (v : Nat) : (s.withDraws v).startup = s.startup := rfl
@[simp] theorem State.withDraws_record (s : State) (v : Nat) : (s.withDraws v).record = s.record := rfl
@[simp] theorem State.withDraws_hold (s : State) (v : Nat) : (s.withDraws v).hold = s.hold := rfl
@[simp] theorem State.withDraws_link (s : State) (v : Nat) : (s.withDraws v).link = s.link := rfl
@[simp] theorem State.withDraws_audio (s : State) (v : Nat) : (s.withDraws v).audio = s.audio := rfl
@[simp] theorem State.withDraws_draws (s : State) (v : Nat) : (s.withDraws v).draws = v := rfl
@[simp] theorem State.withDraws_pending (s : State) (v : Nat) : (s.withDraws v).pending = s.pending := rfl
@[simp] theorem State.withDraws_received (s : State) (v : Nat) : (s.withDraws v).received = s.received := rfl

@[simp] theorem State.withPending_tables (s : State) (v : List Instr) : (s.withPending v).tables = s.tables := rfl
@[simp] theorem State.withPending_planner (s : State) (v : List Instr) : (s.withPending v).planner = s.planner := rfl
@[simp] theorem State.withPending_mixer (s : State) (v : List Instr) : (s.withPending v).mixer = s.mixer := rfl
@[simp] theorem State.withPending_ramp (s : State) (v : List Instr) : (s.withPending v).ramp = s.ramp := rfl
@[simp] theorem State.withPending_output (s : State) (v : List Instr) : (s.withPending v).output = s.output := rfl
@[simp] theorem State.withPending_lines (s : State) (v : List Instr) : (s.withPending v).lines = s.lines := rfl
@[simp] theorem State.withPending_eq (s : State) (v : List Instr) : (s.withPending v).eq = s.eq := rfl
@[simp] theorem State.withPending_tracker (s : State) (v : List Instr) : (s.withPending v).tracker = s.tracker := rfl
@[simp] theorem State.withPending_arbiter (s : State) (v : List Instr) : (s.withPending v).arbiter = s.arbiter := rfl
@[simp] theorem State.withPending_supply (s : State) (v : List Instr) : (s.withPending v).supply = s.supply := rfl
@[simp] theorem State.withPending_integrity (s : State) (v : List Instr) : (s.withPending v).integrity = s.integrity := rfl
@[simp] theorem State.withPending_read (s : State) (v : List Instr) : (s.withPending v).read = s.read := rfl
@[simp] theorem State.withPending_store (s : State) (v : List Instr) : (s.withPending v).store = s.store := rfl
@[simp] theorem State.withPending_patches (s : State) (v : List Instr) : (s.withPending v).patches = s.patches := rfl
@[simp] theorem State.withPending_startup (s : State) (v : List Instr) : (s.withPending v).startup = s.startup := rfl
@[simp] theorem State.withPending_record (s : State) (v : List Instr) : (s.withPending v).record = s.record := rfl
@[simp] theorem State.withPending_hold (s : State) (v : List Instr) : (s.withPending v).hold = s.hold := rfl
@[simp] theorem State.withPending_link (s : State) (v : List Instr) : (s.withPending v).link = s.link := rfl
@[simp] theorem State.withPending_audio (s : State) (v : List Instr) : (s.withPending v).audio = s.audio := rfl
@[simp] theorem State.withPending_draws (s : State) (v : List Instr) : (s.withPending v).draws = s.draws := rfl
@[simp] theorem State.withPending_pending (s : State) (v : List Instr) : (s.withPending v).pending = v := rfl
@[simp] theorem State.withPending_received (s : State) (v : List Instr) : (s.withPending v).received = s.received := rfl

@[simp] theorem State.withReceived_tables (s : State) (v : List RxByte) : (s.withReceived v).tables = s.tables := rfl
@[simp] theorem State.withReceived_planner (s : State) (v : List RxByte) : (s.withReceived v).planner = s.planner := rfl
@[simp] theorem State.withReceived_mixer (s : State) (v : List RxByte) : (s.withReceived v).mixer = s.mixer := rfl
@[simp] theorem State.withReceived_ramp (s : State) (v : List RxByte) : (s.withReceived v).ramp = s.ramp := rfl
@[simp] theorem State.withReceived_output (s : State) (v : List RxByte) : (s.withReceived v).output = s.output := rfl
@[simp] theorem State.withReceived_lines (s : State) (v : List RxByte) : (s.withReceived v).lines = s.lines := rfl
@[simp] theorem State.withReceived_eq (s : State) (v : List RxByte) : (s.withReceived v).eq = s.eq := rfl
@[simp] theorem State.withReceived_tracker (s : State) (v : List RxByte) : (s.withReceived v).tracker = s.tracker := rfl
@[simp] theorem State.withReceived_arbiter (s : State) (v : List RxByte) : (s.withReceived v).arbiter = s.arbiter := rfl
@[simp] theorem State.withReceived_supply (s : State) (v : List RxByte) : (s.withReceived v).supply = s.supply := rfl
@[simp] theorem State.withReceived_integrity (s : State) (v : List RxByte) : (s.withReceived v).integrity = s.integrity := rfl
@[simp] theorem State.withReceived_read (s : State) (v : List RxByte) : (s.withReceived v).read = s.read := rfl
@[simp] theorem State.withReceived_store (s : State) (v : List RxByte) : (s.withReceived v).store = s.store := rfl
@[simp] theorem State.withReceived_patches (s : State) (v : List RxByte) : (s.withReceived v).patches = s.patches := rfl
@[simp] theorem State.withReceived_startup (s : State) (v : List RxByte) : (s.withReceived v).startup = s.startup := rfl
@[simp] theorem State.withReceived_record (s : State) (v : List RxByte) : (s.withReceived v).record = s.record := rfl
@[simp] theorem State.withReceived_hold (s : State) (v : List RxByte) : (s.withReceived v).hold = s.hold := rfl
@[simp] theorem State.withReceived_link (s : State) (v : List RxByte) : (s.withReceived v).link = s.link := rfl
@[simp] theorem State.withReceived_audio (s : State) (v : List RxByte) : (s.withReceived v).audio = s.audio := rfl
@[simp] theorem State.withReceived_draws (s : State) (v : List RxByte) : (s.withReceived v).draws = s.draws := rfl
@[simp] theorem State.withReceived_pending (s : State) (v : List RxByte) : (s.withReceived v).pending = s.pending := rfl
@[simp] theorem State.withReceived_received (s : State) (v : List RxByte) : (s.withReceived v).received = v := rfl

end Sys2Proof.Machine
end

