-- ==== Sys2Proof/Laws/Frames.lean ====
section
/-! SUPPORT. Frames: what each shared operation leaves alone, once for each operation. -/

set_option Elab.async false

namespace Sys2Proof

open Sys2Proof.Machine

/-! ## Frames compose -/

theorem Only.refl (l : List Block) (s : State) : Only l s s := by
  intro b _; cases b <;> rfl

theorem Block.same_trans {s t u : State} (b : Block) (h : b.same s t) (h' : b.same t u) : b.same s u := by
  cases b <;> simp only [Block.same] at * <;> rw [h', h]

theorem Only.trans {l : List Block} {s t u : State} (h : Only l s t) (h' : Only l t u) : Only l s u :=
  fun b hb => b.same_trans (h b hb) (h' b hb)

theorem Only.mono {l m : List Block} {s t : State} (h : Only l s t) (hlm : ∀ b ∈ l, b ∈ m) : Only m s t :=
  fun b hb => h b fun hl => hb (hlm b hl)

/-- Two frames one after the other change at most what either changes. -/
theorem Only.comp {l m n : List Block} {s t u : State} (h : Only l s t) (h' : Only m t u)
    (hl : ∀ b ∈ l, b ∈ n := by decide) (hm : ∀ b ∈ m, b ∈ n := by decide) : Only n s u :=
  (h.mono hl).trans (h'.mono hm)

/-- A listed block that nevertheless stands the same may be taken off the list. -/
theorem Only.tighten {l m : List Block} {s t : State} (h : Only l s t) (b : Block) (hb : b.same s t)
    (hl : ∀ x ∈ l, x = b ∨ x ∈ m := by decide) : Only m s t := by
  intro x hx
  by_cases e : x = b
  · exact e ▸ hb
  · exact h x fun hxl => (hl x hxl).elim e hx

section Projections
variable {l : List Block} {s t : State} (h : Only l s t)
include h
theorem Only.tables (hb : Block.tables ∉ l := by decide) : t.tables = s.tables := h .tables hb
theorem Only.planner (hb : Block.planner ∉ l := by decide) : t.planner = s.planner := h .planner hb
theorem Only.mixer (hb : Block.mixer ∉ l := by decide) : t.mixer = s.mixer := h .mixer hb
theorem Only.ramp (hb : Block.ramp ∉ l := by decide) : t.ramp = s.ramp := h .ramp hb
theorem Only.output (hb : Block.output ∉ l := by decide) : t.output = s.output := h .output hb
theorem Only.lines (hb : Block.lines ∉ l := by decide) : t.lines = s.lines := h .lines hb
theorem Only.eq (hb : Block.eq ∉ l := by decide) : t.eq = s.eq := h .eq hb
theorem Only.tracker (hb : Block.tracker ∉ l := by decide) : t.tracker = s.tracker := h .tracker hb
theorem Only.arbiter (hb : Block.arbiter ∉ l := by decide) : t.arbiter = s.arbiter := h .arbiter hb
theorem Only.supply (hb : Block.supply ∉ l := by decide) : t.supply = s.supply := h .supply hb
theorem Only.integrity (hb : Block.integrity ∉ l := by decide) : t.integrity = s.integrity := h .integrity hb
theorem Only.read (hb : Block.read ∉ l := by decide) : t.read = s.read := h .read hb
theorem Only.store (hb : Block.store ∉ l := by decide) : t.store = s.store := h .store hb
theorem Only.patches (hb : Block.patches ∉ l := by decide) : t.patches = s.patches := h .patches hb
theorem Only.startup (hb : Block.startup ∉ l := by decide) : t.startup = s.startup := h .startup hb
theorem Only.record (hb : Block.record ∉ l := by decide) : t.record = s.record := h .record hb
theorem Only.hold (hb : Block.hold ∉ l := by decide) : t.hold = s.hold := h .hold hb
theorem Only.link (hb : Block.link ∉ l := by decide) : t.link = s.link := h .link hb
theorem Only.audio (hb : Block.audio ∉ l := by decide) : t.audio = s.audio := h .audio hb
theorem Only.draws (hb : Block.draws ∉ l := by decide) : t.draws = s.draws := h .draws hb
theorem Only.pending (hb : Block.pending ∉ l := by decide) : t.pending = s.pending := h .pending hb
theorem Only.received (hb : Block.received ∉ l := by decide) : t.received = s.received := h .received hb
end Projections

/-! ## One update changes its own block -/

section Updates
variable (s : State)
theorem withTables_only (v : Tables) : Only [.tables] s (s.withTables v) := by
  intro b hb; cases b <;> first | rfl | simp at hb
theorem withPlanner_only (v : Planner) : Only [.planner] s (s.withPlanner v) := by
  intro b hb; cases b <;> first | rfl | simp at hb
theorem withMixer_only (v : List MixChan) : Only [.mixer] s (s.withMixer v) := by
  intro b hb; cases b <;> first | rfl | simp at hb
theorem withRamp_only (v : Ramp) : Only [.ramp] s (s.withRamp v) := by
  intro b hb; cases b <;> first | rfl | simp at hb
theorem withOutput_only (v : List OutChan) : Only [.output] s (s.withOutput v) := by
  intro b hb; cases b <;> first | rfl | simp at hb
theorem withLines_only (v : List DelayLine) : Only [.lines] s (s.withLines v) := by
  intro b hb; cases b <;> first | rfl | simp at hb
theorem withEq_only (v : List (List EqSection)) : Only [.eq] s (s.withEq v) := by
  intro b hb; cases b <;> first | rfl | simp at hb
theorem withTracker_only (v : Tracker) : Only [.tracker] s (s.withTracker v) := by
  intro b hb; cases b <;> first | rfl | simp at hb
theorem withArbiter_only (v : Arbiter) : Only [.arbiter] s (s.withArbiter v) := by
  intro b hb; cases b <;> first | rfl | simp at hb
theorem withSupply_only (v : Supply) : Only [.supply] s (s.withSupply v) := by
  intro b hb; cases b <;> first | rfl | simp at hb
theorem withIntegrity_only (v : Integrity) : Only [.integrity] s (s.withIntegrity v) := by
  intro b hb; cases b <;> first | rfl | simp at hb
theorem withRead_only (v : Option ReadRec) : Only [.read] s (s.withRead v) := by
  intro b hb; cases b <;> first | rfl | simp at hb
theorem withStore_only (v : Store) : Only [.store] s (s.withStore v) := by
  intro b hb; cases b <;> first | rfl | simp at hb
theorem withPatches_only (v : List PatchRec) : Only [.patches] s (s.withPatches v) := by
  intro b hb; cases b <;> first | rfl | simp at hb
theorem withStartup_only (v : Startup) : Only [.startup] s (s.withStartup v) := by
  intro b hb; cases b <;> first | rfl | simp at hb
theorem withRecord_only (v : ResetRecord) : Only [.record] s (s.withRecord v) := by
  intro b hb; cases b <;> first | rfl | simp at hb
theorem withHold_only (v : ResetHold) : Only [.hold] s (s.withHold v) := by
  intro b hb; cases b <;> first | rfl | simp at hb
theorem withLink_only (v : Link) : Only [.link] s (s.withLink v) := by
  intro b hb; cases b <;> first | rfl | simp at hb
theorem withAudio_only (v : Audio) : Only [.audio] s (s.withAudio v) := by
  intro b hb; cases b <;> first | rfl | simp at hb
theorem withDraws_only (v : Nat) : Only [.draws] s (s.withDraws v) := by
  intro b hb; cases b <;> first | rfl | simp at hb
theorem withPending_only (v : List Instr) : Only [.pending] s (s.withPending v) := by
  intro b hb; cases b <;> first | rfl | simp at hb
end Updates

theorem Only.ite {l : List Block} {s t u : State} {p : Prop} [Decidable p] (h : p → Only l s t) (h' : ¬p → Only l s u) :
    Only l s (if p then t else u) := by
  split
  · exact h ‹_›
  · exact h' ‹_›

/-! ## The shared operations -/

theorem mapOut_only (f : OutChan → OutChan) (s : State) : Only [.output] s (s.mapOut f) := withOutput_only s _

theorem modifyOut_only (c : Nat) (f : OutChan → OutChan) (s : State) : Only [.output] s (s.modifyOut c f) :=
  withOutput_only s _

theorem modifySet_only (i : Nat) (f : CoeffSet → CoeffSet) (s : State) : Only [.integrity] s (s.modifySet i f) :=
  withIntegrity_only s _

theorem post_only (k : Notice) (s : State) : Only [.link] s (s.post k) :=
  Only.ite (fun _ => .refl _ _) fun _ => withLink_only s _

theorem beginReply_only (s : State) : Only [.link] s (beginReply s) := by
  unfold beginReply; split
  · exact .refl _ _
  · exact withLink_only s _

theorem beginNotice_only (s : State) : Only [.link, .output] s (beginNotice s) := by
  unfold beginNotice; split
  · exact .refl _ _
  · refine Only.ite (fun _ => ?_) fun _ => (withLink_only s _).mono (by decide)
    exact (withLink_only s _).comp (mapOut_only _ _)

theorem beginNext_only (s : State) : Only [.link, .output] s (beginNext s) :=
  Only.ite (fun _ => (beginReply_only s).mono (by decide)) fun _ => beginNotice_only s

/-- An idle transmitter's beginning touches the link, the clip set and the counter of free choices, and nothing else. -/
theorem pump_only (s : State) : Only [.link, .output, .draws] s (pump s) := by
  refine Only.ite (fun _ => .refl _ _) fun _ => Only.ite (fun _ => ?_) fun _ => (beginNext_only s).mono (by decide)
  exact Only.ite (fun _ => (withDraws_only s _).comp (beginNotice_only _)) fun _ =>
    (withDraws_only s _).comp (beginReply_only _)

theorem frameTaken_only (s : State) : Only [.link] s (frameTaken s) := withLink_only s _

/-- A reset being taken touches the store, the read, the link, the audio ports and the hold. -/
theorem enterReset_only (h : Hold) (s : State) : Only [.store, .read, .link, .audio, .hold] s (enterReset h s) :=
  ((((withStore_only s _).comp (withRead_only _ _) (n := [.store, .read])).comp (withLink_only _ _)
    (n := [.store, .read, .link])).comp (withAudio_only _ _) (n := [.store, .read, .link, .audio])).comp
    (withHold_only _ _)

theorem recompute_only (s : State) : Only [.tracker] s (recompute s) := withTracker_only s _

theorem takeSample_only (n : Nat) (s : State) : Only [.tracker] s (takeSample n s) :=
  Only.ite (fun _ => withTracker_only s _) fun _ => (withTracker_only s _).trans (recompute_only _)

theorem goStale_only (s : State) : Only [.tracker, .link] s (goStale s) :=
  Only.ite (fun _ => (withTracker_only s _).comp (post_only _ _)) fun _ => .refl _ _

theorem endWindow_only (s : State) : Only [.tracker] s (endWindow s) :=
  (withTracker_only s _).trans (takeSample_only _ _)

theorem trackerBoundary_only (s : State) : Only [.tracker, .link] s (trackerBoundary s) := by
  unfold trackerBoundary; split
  · exact (withTracker_only s _).comp (goStale_only _)
  · exact .refl _ _
  · exact Only.ite (fun _ => (endWindow_only s).mono (by decide)) fun _ => (withTracker_only s _).mono (by decide)

theorem takeCommit_only (s : State) : Only [.planner, .tracker] s (takeCommit s) :=
  Only.ite (fun _ => (withPlanner_only s _).mono (by decide)) fun _ => (withPlanner_only s _).comp (recompute_only _)

theorem commitIfMarked_only (s : State) : Only [.planner, .tracker] s (commitIfMarked s) :=
  Only.ite (fun _ => takeCommit_only s) fun _ => .refl _ _

theorem computePlan_only (s : State) : Only [.planner, .mixer] s (computePlan s) :=
  (withPlanner_only s _).comp (withMixer_only _ _)

theorem clampApplied_only (s : State) : Only [.ramp] s (clampApplied s) := withRamp_only s _

theorem moveAll_only (s : State) : Only [.ramp, .output] s (moveAll s) := (withRamp_only s _).comp (mapOut_only _ _)

theorem advanceDivider_only (s : State) : Only [.ramp, .output] s (advanceDivider s) :=
  Only.ite (fun _ => (withRamp_only s _).comp (moveAll_only _)) fun _ => (withRamp_only s _).mono (by decide)

theorem checkDrain_only (k : Slot) (s : State) : Only [.ramp] s (checkDrain k s) :=
  Only.ite (fun _ => withRamp_only s _) fun _ => .refl _ _

/-- The ramp unit's boundary touches its own records and the opening faders. -/
theorem rampUnitBoundary_only (s : State) : Only [.ramp, .output] s (rampUnitBoundary s) :=
  ((((clampApplied_only s).comp (advanceDivider_only _) (n := [.ramp, .output])).comp (checkDrain_only _ _)
    (n := [.ramp, .output]))).comp (checkDrain_only _ _)

theorem arbitrate_only (s : State) : Only [.arbiter, .link] s (arbitrate s) :=
  Only.ite (fun _ => .refl _ _) fun _ => (withArbiter_only s _).comp (post_only _ _)

theorem expire_only (s : State) : Only [.arbiter, .link] s (expire s) :=
  Only.ite (fun _ => .refl _ _) fun _ => (withArbiter_only s _).comp (post_only _ _)

theorem takeDrain_only (k : Slot) (s : State) : Only [.ramp, .arbiter, .link] s (takeDrain k s) := by
  refine Only.ite (fun _ => Only.ite (fun _ => ?_) fun _ => (withRamp_only s _).mono (by decide)) fun _ => .refl _ _
  exact (((withRamp_only s _).comp (withArbiter_only _ _) (n := [.ramp, .arbiter])).comp (post_only _ _)
    (n := [.ramp, .arbiter, .link])).comp (arbitrate_only _)

theorem supplyReasons_only (was now : MonitorState) (s : State) : Only [.output] s (supplyReasons was now s) :=
  Only.ite (fun _ => .refl _ _) fun _ => Only.ite (fun _ => mapOut_only _ _) fun _ =>
    Only.ite (fun _ => mapOut_only _ _) fun _ => mapOut_only _ _

theorem takeReading_only (u : Nat) (s : State) : Only [.supply, .output, .link] s (takeReading u s) :=
  have h := (withSupply_only s (s.supply.take s.tables u)).comp (supplyReasons_only s.supply.state _ _)
    (n := [.supply, .output, .link])
  Only.ite (fun _ => h) fun _ => h.comp (post_only _ _)

theorem recordTransition_only (i : Nat) (x : SetState) (r : Bool) (s : State) :
    Only [.integrity, .link] s (recordTransition i x r s) :=
  (withIntegrity_only s _).comp (post_only _ _)

theorem clearFault_only (i : Nat) (s : State) : Only [.output] s (clearFault i s) :=
  Only.ite (fun _ => modifyOut_only _ _ s) fun _ => .refl _ _

theorem leaveGood_only (i : Nat) (s : State) : Only [.integrity, .output, .link] s (leaveGood i s) :=
  have h := ((modifySet_only i (fun e => { e with state := .suspect }) s).comp (withIntegrity_only _ _)
    (n := [.integrity, .output]))
  (Only.ite (fun _ => h.comp (modifyOut_only _ _ _)) fun _ => h).comp (recordTransition_only _ _ _ _)

/-- A check touches the checker's records, the fader of a fixed set's channel and the notice queue. -/
theorem examine_only (i : Nat) (s : State) : Only [.integrity, .output, .link] s (examine i s) :=
  Only.ite (fun _ => leaveGood_only i s) fun _ => .refl _ _

theorem scan_only (s : State) : Only [.integrity, .output, .link] s (scan s) :=
  (examine_only _ s).comp (withIntegrity_only _ _)

theorem beginRead_only (s : State) : Only [.integrity, .read, .store, .link] s (beginRead s) := by
  unfold beginRead; split
  · exact .refl _ _
  · refine Only.comp (m := [.integrity, .link]) ?_ (recordTransition_only _ _ _ _) (l := [.integrity, .read, .store])
    exact (((withIntegrity_only s _).comp (modifySet_only _ _ _) (n := [.integrity])).comp (withRead_only _ _)
      (n := [.integrity, .read])).comp (withStore_only _ _)

theorem beginHost_only (s : State) : Only [.store] s (beginHost s) := by
  unfold beginHost; split
  · exact .refl _ _
  · exact withStore_only s _

theorem grantNext_only (s : State) : Only [.integrity, .read, .store, .link] s (grantNext s) :=
  Only.ite (fun _ => beginRead_only s) fun _ => (beginHost_only s).mono (by decide)

theorem restoreSucceeds_only (i : Nat) (w : Words) (s : State) :
    Only [.integrity, .output, .link] s (restoreSucceeds i w s) :=
  (((modifySet_only i _ s).comp (withIntegrity_only _ _) (n := [.integrity])).comp (clearFault_only _ _)
    (n := [.integrity, .output])).comp (recordTransition_only _ _ _ _)

theorem restoreFails_only (i : Nat) (s : State) : Only [.integrity, .link] s (restoreFails i s) :=
  ((modifySet_only i _ s).comp (withIntegrity_only _ _) (n := [.integrity])).comp (recordTransition_only _ _ _ _)

theorem readOutcome_only (r : ReadRec) (ok : Bool) (s : State) :
    Only [.integrity, .output, .link] s (readOutcome r ok s) := by
  refine Only.ite (fun _ => .refl _ _) fun _ => ?_
  split
  · exact (restoreFails_only _ s).mono (by decide)
  · exact Only.ite (fun _ => restoreSucceeds_only _ _ s) fun _ =>
      (modifySet_only _ _ s).comp (restoreFails_only _ _)

theorem completeRead_only (ok : Bool) (s : State) :
    Only [.integrity, .output, .link, .read, .store] s (completeRead ok s) := by
  unfold completeRead; split
  · exact .refl _ _
  · exact (((withRead_only s _).comp (withStore_only _ _) (n := [.read, .store])).comp (readOutcome_only _ _ _)
      (n := [.integrity, .output, .link, .read, .store])).comp (grantNext_only _)

theorem discardRead_only (i : Nat) (s : State) : Only [.read] s (discardRead i s) := by
  unfold discardRead; split
  · exact Only.ite (fun _ => withRead_only s _) fun _ => .refl _ _
  · exact .refl _ _

theorem leaveForGood_only (was : SetState) (i : Nat) (s : State) :
    Only [.integrity, .output, .read, .link] s (leaveForGood was i s) := by
  cases was
  · exact .refl _ _
  · exact ((withIntegrity_only s _).comp (clearFault_only _ _) (n := [.integrity, .output])).comp
      (recordTransition_only _ _ _ _)
  · exact ((discardRead_only i s).comp (clearFault_only _ _) (n := [.read, .output])).comp
      (recordTransition_only _ _ _ _)
  · exact (clearFault_only i s).comp (recordTransition_only _ _ _ _)

theorem writeSet_only (h : Bool) (i : Nat) (w : Words) (s : State) :
    Only [.integrity, .output, .read, .link] s (writeSet h i w s) :=
  (modifySet_only i _ s).comp (leaveForGood_only _ _ _)

theorem writeSets_only (h : Bool) : ∀ (i : Nat) (l : List Words) (s : State),
    Only [.integrity, .output, .read, .link] s (writeSets h i l s)
  | _, [], s => .refl _ s
  | i, w :: rest, s => (writeSet_only h i w s).trans (writeSets_only h (i + 1) rest _)

theorem takePolarity_only (s : State) : Only [.output] s (takePolarity s) := withOutput_only s _

theorem countClips_only (s : State) : Only [.output, .link] s (countClips s) :=
  Only.ite (fun _ => (mapOut_only _ s).comp (post_only _ _)) fun _ => .refl _ _

theorem applyDelays_only (s : State) : Only [.lines, .output] s (applyDelays s) :=
  (withLines_only s _).comp (mapOut_only _ _)

theorem outputBoundary_only (s : State) : Only [.lines, .output, .link] s (outputBoundary s) :=
  ((((mapOut_only _ s).comp (takePolarity_only _) (n := [.output])).comp (countClips_only _)
    (n := [.output, .link])).comp (applyDelays_only _) (n := [.lines, .output, .link])).comp (mapOut_only _ _)

theorem delayActs_only (first k : Nat) (s : State) : Only [.output] s (delayActs first k s) := withOutput_only s _

theorem routeActs_only (b : Tables) (s : State) : Only [.output] s (routeActs b s) := withOutput_only s _

theorem trackerActs_only (b : Tables) (s : State) : Only [.tracker, .link] s (trackerActs b s) := by
  have h : Only [.tracker, .link] s
      (if s.tables.global .speedSource = b.global .speedSource then s
        else if pulseSource s then switchToPulse s else switchToReport s) :=
    Only.ite (fun _ => .refl _ _) fun _ =>
      Only.ite (fun _ => (withTracker_only s _).comp (post_only _ _)) fun _ =>
        (withTracker_only s _).comp (post_only _ _)
  exact Only.ite (fun _ => h) fun _ => h.comp (recompute_only _)

/-- An accepted write of numbers touches its table, and for GLOBALS and CH_DELAY what their owners do at once. -/
theorem acceptNums_only (id : TableId) (first k : Nat) (l : List Int) (s : State) :
    Only [.tables, .ramp, .tracker, .output, .link] s (acceptNums id first k l s) := by
  have h := withTables_only s (s.tables.putNums id l)
  cases id
  case globals =>
    refine Only.comp (l := [.tables, .ramp]) (m := [.tracker, .link]) ?_ (trackerActs_only _ _)
    exact Only.ite (fun _ => h.comp (withRamp_only _ _)) fun _ => h.mono (by decide)
  case delay => exact h.comp (delayActs_only _ _ _)
  all_goals exact h.mono (by decide)

theorem acceptCurve_only (l : List CurvePoint) (s : State) : Only [.tables, .tracker] s (acceptCurve l s) :=
  (withTables_only s _).comp (recompute_only _)

theorem acceptClasses_only (l : List ClassEntry) (s : State) : Only [.tables, .arbiter, .link] s (acceptClasses l s) :=
  (withTables_only s _).comp (arbitrate_only _)

theorem acceptRoute_only (l : List Route) (s : State) : Only [.tables, .output] s (acceptRoute l s) :=
  (withTables_only s _).comp (routeActs_only _ _)

theorem samplePeriod_only (p : Ports) (s : State) : Only [.eq, .lines, .output, .audio] s (samplePeriod p s) :=
  (((withEq_only s _).comp (withLines_only _ _) (n := [.eq, .lines])).comp (withOutput_only _ _)
    (n := [.eq, .lines, .output])).comp (withAudio_only _ _)

theorem eqBoundary_only (s : State) : Only [.eq, .integrity, .output, .link] s (eqBoundary s) := by
  have h : ∀ (l : List Nat) (s : State), Only [.integrity, .output, .link] s (l.foldl (fun s i => examine i s) s) := by
    intro l
    induction l with
    | nil => exact fun s => .refl _ s
    | cons i l ih => exact fun s => (examine_only i s).trans (ih _)
  exact (withEq_only s _).comp (h _ _)

end Sys2Proof
end

