-- ==== Sys2Proof/Laws/Link.lean ====
section
/-! SUPPORT. Posting, sending, and what a request's event answers: once for each shared operation. -/

set_option Elab.async false

namespace Sys2Proof

open Sys2Proof.Machine

/-! ## Posting (R182) -/

/-- The notices of `t` are those of `s` with some appended, and the rest of the link is the same. -/
def Posts (s t : State) : Prop :=
  ∃ ns, t.link = { s.link with notices := s.link.notices ++ ns } ∧
    (s.link.notices.Nodup → (s.link.notices ++ ns).Nodup)

theorem Posts.refl (s : State) : Posts s s := ⟨[], by simp, by simp⟩

theorem Posts.of_same {s t : State} (h : t.link = s.link) : Posts s t := ⟨[], by simp [h], by simp⟩

theorem Posts.trans {s t u : State} (h : Posts s t) (h' : Posts t u) : Posts s u := by
  obtain ⟨a, ha, hn⟩ := h
  obtain ⟨b, hb, hm⟩ := h'
  refine ⟨a ++ b, by rw [hb, ha]; simp, fun hs => ?_⟩
  have := hm (by rw [ha]; exact hn hs)
  rw [ha] at this
  simpa using this

theorem Posts.after {s t u : State} (h : Posts t u) (hl : t.link = s.link) : Posts s u := (Posts.of_same hl).trans h

theorem Posts.then {s t u : State} (h : Posts s t) (hl : u.link = t.link) : Posts s u := h.trans (.of_same hl)

theorem Posts.ite {s t u : State} {p : Prop} [Decidable p] (h : p → Posts s t) (h' : ¬p → Posts s u) :
    Posts s (if p then t else u) := by
  split
  · exact h ‹_›
  · exact h' ‹_›

/-- The link after a posting. -/
theorem post_link (k : Notice) (s : State) :
    (s.post k).link = { s.link with notices := s.link.notices ++ [k].filter fun n => n ∉ s.link.notices } := by
  unfold State.post
  split <;> simp [*]

theorem post_posts (k : Notice) (s : State) : Posts s (s.post k) := by
  unfold State.post
  split
  · exact .refl s
  · exact ⟨[k], rfl, fun h => by simpa [List.nodup_append] using ⟨h, fun a ha hk => ‹k ∉ _› (hk ▸ ha)⟩⟩

theorem goStale_posts (s : State) : Posts s (goStale s) :=
  .ite (fun _ => (post_posts _ _).after rfl) fun _ => .refl s

theorem trackerBoundary_posts (s : State) : Posts s (trackerBoundary s) := by
  unfold trackerBoundary; split
  · exact (goStale_posts _).after rfl
  · exact .refl s
  · exact .ite (fun _ => .of_same (endWindow_only s).link) fun _ => .of_same rfl

theorem arbitrate_posts (s : State) : Posts s (arbitrate s) :=
  .ite (fun _ => .refl s) fun _ => (post_posts _ _).after rfl

theorem expire_posts (s : State) : Posts s (expire s) :=
  .ite (fun _ => .refl s) fun _ => (post_posts _ _).after rfl

theorem takeDrain_posts (k : Slot) (s : State) : Posts s (takeDrain k s) := by
  refine .ite (fun _ => .ite (fun _ => ?_) fun _ => .of_same rfl) fun _ => .refl s
  refine Posts.trans ?_ (arbitrate_posts _)
  exact (post_posts _ _).after rfl

theorem takeReading_posts (u : Nat) (s : State) : Posts s (takeReading u s) := by
  have h : (supplyReasons s.supply.state (s.supply.take s.tables u).state
      (s.withSupply (s.supply.take s.tables u))).link = s.link := (supplyReasons_only _ _ _).link
  exact .ite (fun _ => .of_same h) fun _ => (post_posts _ _).after h

theorem recordTransition_posts (i : Nat) (x : SetState) (r : Bool) (s : State) : Posts s (recordTransition i x r s) :=
  (post_posts _ _).after rfl

theorem leaveGood_posts (i : Nat) (s : State) : Posts s (leaveGood i s) := by
  refine (recordTransition_posts _ _ _ _).after ?_
  split <;> rfl

theorem examine_posts (i : Nat) (s : State) : Posts s (examine i s) :=
  .ite (fun _ => leaveGood_posts i s) fun _ => .refl s

theorem scan_posts (s : State) : Posts s (scan s) := (examine_posts _ s).then rfl

theorem beginRead_posts (s : State) : Posts s (beginRead s) := by
  unfold beginRead; split
  · exact .refl s
  · exact (recordTransition_posts _ _ _ _).after rfl

theorem grantNext_posts (s : State) : Posts s (grantNext s) :=
  .ite (fun _ => beginRead_posts s) fun _ => .of_same (beginHost_only s).link

theorem restoreSucceeds_posts (i : Nat) (w : Words) (s : State) : Posts s (restoreSucceeds i w s) :=
  (recordTransition_posts _ _ _ _).after (clearFault_only _ _).link

theorem restoreFails_posts (i : Nat) (s : State) : Posts s (restoreFails i s) :=
  (recordTransition_posts _ _ _ _).after rfl

theorem readOutcome_posts (r : ReadRec) (ok : Bool) (s : State) : Posts s (readOutcome r ok s) := by
  refine .ite (fun _ => .refl s) fun _ => ?_
  split
  · exact restoreFails_posts _ s
  · exact .ite (fun _ => restoreSucceeds_posts _ _ s) fun _ => (restoreFails_posts _ _).after rfl

theorem completeRead_posts (ok : Bool) (s : State) : Posts s (completeRead ok s) := by
  unfold completeRead; split
  · exact .refl s
  · refine Posts.trans ?_ (grantNext_posts _)
    exact (readOutcome_posts _ _ _).after rfl

theorem leaveForGood_posts (was : SetState) (i : Nat) (s : State) : Posts s (leaveForGood was i s) := by
  cases was
  · exact .refl s
  · exact (recordTransition_posts _ _ _ _).after (clearFault_only _ _).link
  · exact (recordTransition_posts _ _ _ _).after
      (((clearFault_only i (discardRead i s)).link).trans (discardRead_only i s).link)
  · exact (recordTransition_posts _ _ _ _).after (clearFault_only i s).link

theorem writeSets_posts (h : Bool) : ∀ (i : Nat) (l : List Words) (s : State), Posts s (writeSets h i l s)
  | _, [], s => .refl s
  | i, w :: rest, s => by
    refine Posts.trans ?_ (writeSets_posts h (i + 1) rest (writeSet h i w s))
    exact (leaveForGood_posts _ i _).after rfl

theorem countClips_posts (s : State) : Posts s (countClips s) :=
  .ite (fun _ => (post_posts _ _).after rfl) fun _ => .refl s

theorem outputBoundary_posts (s : State) : Posts s (outputBoundary s) := by
  refine Posts.then (Posts.then ?_ (applyDelays_only _).link) (mapOut_only _ _).link
  exact (countClips_posts _).after rfl

theorem trackerActs_posts (b : Tables) (s : State) : Posts s (trackerActs b s) := by
  have h : Posts s
      (if s.tables.global .speedSource = b.global .speedSource then s
        else if pulseSource s then switchToPulse s else switchToReport s) :=
    .ite (fun _ => .refl s) fun _ => .ite (fun _ => (post_posts _ _).after rfl) fun _ => (post_posts _ _).after rfl
  exact .ite (fun _ => h) fun _ => h.then rfl

theorem acceptNums_posts (id : TableId) (first k : Nat) (l : List Int) (s : State) :
    Posts s (acceptNums id first k l s) := by
  cases id
  case globals =>
    refine (trackerActs_posts _ _).after ?_
    split <;> rfl
  all_goals exact .of_same rfl

theorem acceptClasses_posts (l : List ClassEntry) (s : State) : Posts s (acceptClasses l s) :=
  (arbitrate_posts _).after rfl

theorem eqBoundary_posts (s : State) : Posts s (eqBoundary s) := by
  have h : ∀ (l : List Nat) (s : State), Posts s (l.foldl (fun s i => examine i s) s) := by
    intro l
    induction l with
    | nil => exact fun s => .refl s
    | cons i l ih => exact fun s => (examine_posts i s).trans (ih _)
  exact (h _ _).after rfl

/-! ## The link's order is kept by sending -/

theorem pump_linkOk {s : State} (hr : s.link.replies.length ≤ 4) (hn : s.link.notices.Nodup) :
    LinkOk (pump s).link := by
  have reply : ∀ u : State, u.link = s.link → s.link.replies ≠ [] → LinkOk (beginReply u).link := by
    intro u hu hne
    unfold beginReply
    rw [hu]
    cases h : s.link.replies with
    | nil => exact absurd h hne
    | cons r rest => exact ⟨by rw [h] at hr; simp at hr ⊢; omega, hn, by simp⟩
  have notice : ∀ u : State, u.link = s.link → (s.link.notices = [] → s.link.replies = []) →
      LinkOk (beginNotice u).link := by
    intro u hu hne
    unfold beginNotice
    rw [hu]
    cases h : s.link.notices with
    | nil =>
      simp only
      rw [hu]
      exact ⟨hr, hn, fun _ => ⟨hne h, h⟩⟩
    | cons k rest =>
      rw [h] at hn
      have : LinkOk { s.link with tx := some ⟨k.code, 0, noticeContent u k⟩, notices := rest } :=
        ⟨hr, (List.nodup_cons.1 hn).2, by simp⟩
      simp only
      split <;> simpa [State.mapOut] using this
  unfold pump
  split
  · rename_i ht
    exact ⟨hr, hn, fun h => by simp [h] at ht⟩
  · split
    · rename_i hb
      simp only
      split
      · exact notice _ rfl fun h => absurd h hb.2
      · exact reply _ rfl hb.1
    · rename_i hb
      unfold beginNext
      split
      · exact reply s rfl ‹_›
      · exact notice s rfl fun _ => by simpa using ‹¬s.link.replies ≠ []›

/-! ## Sending (R181) -/

/-- The content of a notice does not depend on the link. -/
theorem noticeContent_only {s t : State} (h : Only [.link, .draws] s t) (n : Notice) :
    noticeContent t n = noticeContent s n := by
  cases n <;>
    simp [noticeContent, readyContent, annContent, coeffContent, countSets, doneContent, clipContent, State.outChan,
      h.startup, h.record, h.store, h.arbiter, h.tracker, h.supply, h.integrity, h.output]

/-- What the transmitter does at the end of an event, whatever its reply and its notices. -/
theorem pump_sends {was : Link} {u : State} {rs : List Frame} {ns : List Notice} (hw : LinkOk was)
    (hu : u.link = { was with
      replies := was.replies ++ rs, notices := was.notices ++ ns.filter fun n => n ∉ was.notices })
    (hc : Notice.clip ∉ ns) : Sends was (pump u) rs ns ∧ Only [.link, .draws] u (pump u) := by
  by_cases ht : was.tx = none
  · obtain ⟨hr, hn⟩ := hw.2.2 ht
    have hu' : u.link = { was with replies := rs, notices := ns } := by simpa [hr, hn] using hu
    have reply : ∀ v : State, Only [.draws] u v → ∀ r rest, rs = r :: rest →
        (beginReply v).link = { was with tx := some r, replies := rest, notices := ns } ∧
          Only [.link, .draws] u (beginReply v) := by
      intro v hv r rest h
      refine ⟨?_, hv.comp (beginReply_only v)⟩
      simp [beginReply, hv.link, hu', h]
    have notice : ∀ v : State, Only [.draws] u v → ∀ n rest, ns = n :: rest →
        (beginNotice v).link = { was with tx := some ⟨n.code, 0, noticeContent u n⟩, replies := rs, notices := rest } ∧
          Only [.link, .draws] u (beginNotice v) := by
      intro v hv n rest h
      have hk : n ≠ .clip := fun e => hc (by simp [h, e])
      have hb : beginNotice v = v.withLink { v.link with
          tx := some ⟨n.code, 0, noticeContent v n⟩, notices := rest } := by
        simp [beginNotice, hv.link, hu', h, hk]
      rw [hb]
      refine ⟨?_, hv.comp (withLink_only v _)⟩
      simp [hv.link, hu', noticeContent_only (hv.mono (m := [.link, .draws]) (by decide))]
    have htx : u.link.tx = none := by rw [hu]; exact ht
    have hd : Only [.draws] u (u.withDraws (u.draws + 1)) := withDraws_only _ _
    unfold Sends
    cases hrs : rs with
    | nil =>
      cases hns : ns with
      | nil =>
        have : pump u = u := by simp [pump, ht, beginNext, beginNotice, hu', hrs, hns]
        rw [this]
        exact ⟨by simp [hr, hn, hu', hrs, hns], .refl _ _⟩
      | cons n rest =>
        have : pump u = beginNotice u := by simp [pump, ht, beginNext, hu', hrs]
        rw [this]
        obtain ⟨h1, h2⟩ := notice u (.refl _ _) n rest hns
        refine ⟨?_, h2⟩
        rw [if_neg (by simp [ht, hr, hn])]
        exact .inr ⟨n, rest, by simp [hn], by simpa [hr, hrs, noticeContent_only h2] using h1⟩
    | cons r rest =>
      have hne : ¬(was.tx ≠ none ∨ was.replies ++ r :: rest = [] ∧
          (was.notices ++ ns.filter fun n => n ∉ was.notices) = []) := by simp [ht]
      have first : ∀ v : State, Only [.draws] u v → ((∃ r' rest', was.replies ++ r :: rest = r' :: rest' ∧
            (beginReply v).link = { was with
              tx := some r', replies := rest', notices := was.notices ++ ns.filter fun n => n ∉ was.notices }) ∧
          Only [.link, .draws] u (beginReply v)) := by
        intro v hv
        obtain ⟨h1, h2⟩ := reply v hv r rest hrs
        exact ⟨⟨r, rest, by simp [hr], by simpa [hn] using h1⟩, h2⟩
      rw [if_neg hne]
      cases hns : ns with
      | nil =>
        have : pump u = beginReply u := by simp [pump, ht, beginNext, hu', hrs, hns]
        rw [this]
        have := first u (.refl _ _)
        exact ⟨.inl (by simpa [hns] using this.1), this.2⟩
      | cons n nrest =>
        have : pump u = if Config.noticeFirst u.draws then beginNotice (u.withDraws (u.draws + 1))
            else beginReply (u.withDraws (u.draws + 1)) := by simp [pump, ht, hu', hrs, hns]
        rw [this]
        split
        · obtain ⟨h1, h2⟩ := notice _ hd n nrest hns
          exact ⟨.inr ⟨n, nrest, by simp [hn], by simpa [hr, hrs, noticeContent_only h2] using h1⟩, h2⟩
        · have := first _ hd
          exact ⟨.inl (by simpa [hns] using this.1), this.2⟩
  · have : pump u = u := by
      have : u.link.tx.isSome := by rw [hu]; exact Option.isSome_iff_ne_none.2 ht
      simp [pump, this]
    rw [this]
    exact ⟨by unfold Sends; rw [if_pos (.inl ht)]; exact hu, .refl _ _⟩

/-! ## Events and requests -/

theorem event_next {s : State} (h : s.held = false) (f : State → State) : event f s = .next (pump (f s)) := by
  simp [event, h]

/-- A free choice is drawn only where an idle transmitter finds a reply and a notice waiting (log entry 7). -/
theorem pump_draws {s : State} (h : s.link.replies = [] ∨ s.link.notices = [] ∨ s.link.tx ≠ none) :
    (pump s).draws = s.draws := by
  unfold pump
  split
  · rfl
  · rename_i ht
    have hn : s.link.tx = none := by simpa using ht
    rw [if_neg (by rcases h with h | h | h <;> simp_all)]
    exact (beginNext_only s).draws

/-- An event that appends no reply: what it answers, once what it posts is known. -/
theorem event_sends {s : State} (ha : Awake s) {f : State → State} {ns : List Notice}
    (hf : (f s).link = { s.link with notices := s.link.notices ++ ns.filter fun n => n ∉ s.link.notices })
    (hc : Notice.clip ∉ ns) : ∃ t, event f s = .next t ∧ Only [.link] (f s) t ∧ Sends s.link t [] ns := by
  have h := pump_sends (rs := []) ha.2 (by simpa using hf) hc
  refine ⟨_, event_next ha.1 f, h.2.tighten .draws (pump_draws ?_), h.1⟩
  rw [hf]
  by_cases ht : s.link.tx = none
  · exact .inl (ha.2.2.2 ht).1
  · exact .inr (.inr ht)

/-- An event that leaves the link as it is answers its own effect. -/
theorem event_quiet {s : State} (ha : Awake s) {f : State → State} (hf : (f s).link = s.link) :
    event f s = .next (f s) := by
  rw [event_next ha.1]
  unfold pump
  rw [hf]
  cases h : s.link.tx with
  | some x => simp
  | none =>
    obtain ⟨hr, hn⟩ := ha.2.2.2 h
    simp [hr, hn, beginNext, beginNotice, hf]

@[simp] theorem frameTaken_link (s : State) : (frameTaken s).link = afterFrame s.link := rfl

theorem afterFrame_ok {l : Link} (h : LinkOk l) : LinkOk (afterFrame l) := h

@[simp] theorem frameTaken_startup (s : State) : (frameTaken s).startup = s.startup := rfl

/-- A request that reaches its owner: the reply is formed from what the owner answers, and sent or queued. -/
theorem request_sends {s : State} (ha : Awake s) (hr : s.link.replies.length < 4) {kind tag : Byte} {ready : Bool}
    (hl : ready = true → s.startup.state ≠ .loading) {handle : State → Handled} {ns : List Notice}
    (hf : (handle (frameTaken s)).state.link = { afterFrame s.link with
      notices := s.link.notices ++ ns.filter fun n => n ∉ s.link.notices })
    (hc : Notice.clip ∉ ns) :
    ∃ t, request kind tag true ready handle s = .next t ∧ Only [.link, .draws] (handle (frameTaken s)).state t ∧
      Sends (afterFrame s.link) t
        [replyFrame kind tag (handle (frameTaken s)).status (handle (frameTaken s)).content] ns := by
  have hd : dispatch kind tag (commonChecks true ready handle) (frameTaken s) =
      appendReply kind tag (handle (frameTaken s)) := by
    have : ¬(4 ≤ (frameTaken s).link.replies.length) := by simpa [afterFrame] using hr
    have hs : (ready && decide ((frameTaken s).startup.state = .loading)) = false := by
      cases ready
      · rfl
      · exact decide_eq_false (hl rfl)
    unfold dispatch commonChecks
    rw [if_neg this, hs]
    rfl
  have hq : request kind tag true ready handle s = .next (pump (appendReply kind tag (handle (frameTaken s)))) := by
    unfold request
    rw [event_next ha.1, hd]
  have hu : (appendReply kind tag (handle (frameTaken s))).link = { afterFrame s.link with
      replies := (afterFrame s.link).replies ++
        [replyFrame kind tag (handle (frameTaken s)).status (handle (frameTaken s)).content]
      notices := (afterFrame s.link).notices ++ ns.filter fun n => n ∉ (afterFrame s.link).notices } := by
    unfold appendReply
    rw [State.withLink_link, hf]
    rfl
  have h := pump_sends (afterFrame_ok ha.2) hu hc
  refine ⟨_, hq, ?_, h.1⟩
  have ho : Only [.link] (handle (frameTaken s)).state (appendReply kind tag (handle (frameTaken s))) :=
    withLink_only _ _
  exact ho.comp h.2

end Sys2Proof
end

