-- ==== Sys2Proof/Laws/Step.lean ====
section
/-! SUPPORT. What a step can do, said once: every command but the reset rows is one event, and an invariant is kept by every
step once each event's own effect keeps it. -/

set_option Elab.async false

namespace Sys2Proof

open Sys2Proof.Machine

/-- The change that a good frame of a request makes, before the transmitter begins to send. -/
def taken (kind tag : Byte) (lengthOk ready : Bool) (handle : State → Handled) (s : State) : State :=
  dispatch kind tag (commonChecks lengthOk ready handle) (frameTaken s)

/-- The change that a command makes in an event that is taken, before an idle transmitter begins to send. The rows of reset,
FRAME_SENT and STORED_COPY_DAMAGED are no such events; they stand here as no change. -/
def effect : Instr → State → State
  | .set tag p => taken 0x01 tag (setLengthOk p.length) true (handleSet p)
  | .commit tag p => taken 0x02 tag (p.length = 0) true handleCommit
  | .query tag p => taken 0x03 tag (p.length = 3) false (handleQuery p)
  | .speed tag p => taken 0x04 tag (p.length = 3) true (handleSpeed p)
  | .annStart tag p => taken 0x05 tag (p.length = 2) true (handleAnnStart p)
  | .annEnd tag p => taken 0x06 tag (p.length = 1) true (handleAnnEnd p)
  | .tableWrite tag p => taken 0x07 tag (4 ≤ p.length && p.length ≤ 248) true (handleTableWrite p)
  | .tableRead tag p => taken 0x08 tag (p.length = 4) true (handleTableRead p)
  | .save tag p => taken 0x09 tag (p.length = 1) true (handleSave p)
  | .closeFactory tag p => taken 0x0A tag (p.length = 0) true handleClose
  | .patchPut tag p => taken 0x0B tag (p.length = 5) true (handlePatchPut p)
  | .patchDrop tag p => taken 0x0C tag (p.length = 3) true (handlePatchDrop p)
  | .counters tag p => taken 0x0D tag (p.length = 1) true (handleCounters p)
  | .clearHistory tag p => taken 0x0E tag (p.length = 0) true handleClearHistory
  | .restart tag p => taken 0x0F tag (p.length = 0) true handleRestart
  | .badKind kind tag _ => fun s =>
    if 1 ≤ kind.toNat ∧ kind.toNat ≤ 15 then s
    else dispatch kind tag (fun s => Handled.refuse s .badKind) (frameTaken s)
  | .crcError body crc => fun s => if crc = crc16 body then s else (frameTaken s).countCrcError
  | .frameLengthInvalid len => fun s =>
    if len.toNat < 2 ∨ 250 < len.toNat then (frameTaken s).countCrcError else s
  | .linkGap next => fun s => s.countGap.withLink { s.countGap.link with
      assembler := if next = 0xA5 then .started else .hunting }
  | .commitTaken => commitIfMarked
  | .plannerBoundary => fun s => computePlan (commitIfMarked s)
  | .rampBoundary => rampUnitBoundary
  | .rampStep => fun s => if stepDue s then rampUnitBoundary s else s
  | .drainCompletion slot => takeDrain slot
  | .outputStageStep => outputBoundary
  | .applyDelay => applyDelays
  | .eqBoundary => eqBoundary
  | .scannerCheck => scan
  | .upset i f c => upsetSet i f c
  | .readSetBegin => fun s => if s.store.running = none ∧ readWaits s then beginRead s else s
  | .readSetComplete ok => completeRead ok
  | .arbiterBoundary => fun s => expire (s.withArbiter s.arbiter.tick)
  | .expiry => expire
  | .speedTrackerBoundary => trackerBoundary
  | .staleTimeout => goStale
  | .windowEnd => fun s => if s.tracker.state = .pulse ∧ 250 ≤ s.tracker.windowFrames + 1 then endWindow s else s
  | .pulseCounted e => wheelPulse e
  | .supplyReading mv => takeReading (readingOf mv)
  | .runComplete mv => fun s => if completesRun (readingOf mv) s then takeReading (readingOf mv) s else s
  | .settleComplete mv => fun s => if completesSettle (readingOf mv) s then takeReading (readingOf mv) s else s
  | .loadComplete => completeLoad
  | .hostOperationBegin => fun s => if s.store.running = none ∧ readWaits s = false then beginHost s else s
  | .saveComplete ok => completeSave ok
  | .closeComplete ok => completeClose ok
  | .samplePeriod p => samplePeriod p
  | .frameSent | .supplyCut | .resetPin | .resetRelease _ | .powerLoss | .storedCopyDamaged _ _ => id

/-- The rows that are no event of a part out of reset: FRAME_SENT, the events of reset, damage to the store. -/
def outside : Instr → Bool
  | .frameSent | .supplyCut | .resetPin | .resetRelease _ | .powerLoss | .storedCopyDamaged _ _ => true
  | _ => false

/-- Every other command is one event with its effect. -/
theorem exec_event {c : Instr} (h : outside c = false) (s : State) : exec c s = event (effect c) s := by
  cases c
  case frameSent => cases h
  case supplyCut => cases h
  case resetPin => cases h
  case resetRelease => cases h
  case powerLoss => cases h
  case storedCopyDamaged => cases h
  all_goals
    dsimp only [exec, effect]
    first
      | unfold execSet | unfold execCommit | unfold execQuery | unfold execSpeed | unfold execAnnStart
      | unfold execAnnEnd | unfold execTableWrite | unfold execTableRead | unfold execSave | unfold execCloseFactory
      | unfold execPatchPut | unfold execPatchDrop | unfold execCounters | unfold execClearHistory
      | unfold execRestart | skip
    rfl

/-- An event keeps what its effect with the sending that follows keeps. -/
theorem event_keeps {P : State → Prop} {f : State → State} {s t : State} (hs : P s) (hf : P s → P (pump (f s)))
    (h : event f s = .next t) : P t := by
  unfold event at h
  injection h with h
  subst h
  split
  · exact hs
  · exact hf hs

/-- An invariant is kept by every command if each of these keeps it: an event with the sending that follows it, FRAME_SENT,
a reset, a loss of power, the end of one hold among several, a release, damage to a stored copy. -/
theorem exec_keeps {P : State → Prop}
    (hev : ∀ c s, outside c = false → P s → P (pump (effect c s))) (hsent : ∀ s, P s → P (frameSent s))
    (hreset : ∀ h s, P s → P (enterReset h s)) (hlose : ∀ s, P s → P (losePower s))
    (hdrop : ∀ h s, P s → P (s.withHold (s.hold.drop h))) (hrelease : ∀ h s, P s → P (release h s))
    (hdamage : ∀ i f s, P s → P (damageStored i f s))
    {c : Instr} {s t : State} (hs : P s) (h : exec c s = .next t) : P t := by
  cases ho : outside c with
  | false => exact event_keeps hs (hev c s ho) (exec_event ho s ▸ h)
  | true =>
    cases c
    case frameSent =>
      change Host.Outcome.next (if s.held then s else frameSent s) = _ at h
      injection h with h
      subst h
      split
      · exact hs
      · exact hsent s hs
    case supplyCut => exact Host.Outcome.next.inj h ▸ hreset _ s hs
    case resetPin => exact Host.Outcome.next.inj h ▸ hreset _ s hs
    case powerLoss => exact Host.Outcome.next.inj h ▸ hlose s hs
    case resetRelease e =>
      change Host.Outcome.next (if s.hold.has e then endHold e s else s) = _ at h
      injection h with h
      subst h
      split
      · dsimp only [endHold]
        split
        · exact hdrop e s hs
        · exact hrelease e s hs
      · exact hs
    case storedCopyDamaged i f =>
      change Host.Outcome.next (if s.store.factoryState = .blank then s else damageStored i f s) = _ at h
      injection h with h
      subst h
      split
      · exact hs
      · exact hdamage i f s hs
    all_goals cases ho

/-- A byte on LINK_RX keeps what the assembler's move and every command keep. -/
theorem receiveByte_keeps {P : State → Prop} (ha : ∀ s a, P s → P (s.withLink { s.link with assembler := a }))
    (hc : ∀ c s t, P s → exec c s = .next t → P t) {r : RxByte} {s t : State} (hs : P s)
    (h : receiveByte r s = .next t) : P t := by
  unfold receiveByte at h
  split at h
  · exact Host.Outcome.next.inj h ▸ hs
  · split at h
    · exact hc _ _ _ hs h
    · dsimp only at h
      split at h
      · exact Host.Outcome.next.inj h ▸ ha _ _ hs
      · exact hc _ _ _ (ha _ _ hs) h

/-- The same for a step, for an invariant that is indifferent to the queue of commands, to the bytes that wait and to the
receive assembler. -/
theorem step_keeps {P : State → Prop} (hq : ∀ s l, P s → P (s.withPending l))
    (hr : ∀ s l, P s → P (s.withReceived l)) (ha : ∀ s a, P s → P (s.withLink { s.link with assembler := a }))
    (hc : ∀ c s t, P s → exec c s = .next t → P t) {s t : State} (hs : P s) (h : step s = .next t) : P t := by
  unfold step at h
  split at h
  · split at h
    · exact Host.Outcome.next.inj h ▸ hs
    · exact receiveByte_keeps ha hc (hr _ _ hs) h
  · exact hc _ _ _ (hq _ _ hs) h

/-- A request keeps what its owner's handling keeps, if the discard counter, the queue of replies and the assembler do not
bear on it. -/
theorem taken_keeps {P : State → Prop} (hlink : ∀ s l, P s → P (s.withLink l)) {handle : State → Handled}
    (hh : ∀ s, P s → P (handle s).state) {s : State} (hs : P s) (kind tag : Byte) (lengthOk ready : Bool) :
    P (taken kind tag lengthOk ready handle s) := by
  have h0 : P (frameTaken s) := hlink _ _ hs
  unfold taken dispatch
  split
  · exact hlink _ _ h0
  · refine hlink _ _ ?_
    unfold commonChecks
    split
    · exact h0
    · split
      · exact h0
      · exact hh _ h0

end Sys2Proof
end

