-- ==== Sys2Proof/Laws/Requests.lean ====
section
/-! SUPPORT. Frames and postings of the owners' handling of requests and of the store's completions, once for each. -/

set_option Elab.async false

namespace Sys2Proof

open Sys2Proof.Machine

/-! ## What the handling of a request changes -/

theorem handleSet_only (p : List Byte) (s : State) : Only [.planner] s (handleSet p s).state := by
  unfold handleSet
  split
  · exact .refl _ s
  · dsimp only
    split
    · exact .refl _ s
    · exact withPlanner_only s _

theorem handleCommit_only (s : State) : Only [.planner] s (handleCommit s).state :=
  Only.ite (fun _ => .refl _ s) fun _ => withPlanner_only s _

theorem handleQuery_only (p : List Byte) (s : State) : (handleQuery p s).state = s := by
  unfold handleQuery
  split
  · split <;> rfl
  · rfl

theorem validReport_only (v : Nat) (s : State) : Only [.tracker, .link] s (validReport v s) := by
  refine Only.comp (l := [.tracker, .link]) ?_ (takeSample_only _ _)
  exact Only.ite (fun _ => ((withTracker_only s _).comp (withTracker_only _ _) (n := [.tracker])).comp (post_only _ _))
    fun _ => (withTracker_only s _).mono (by decide)

theorem handleSpeed_only (p : List Byte) (s : State) : Only [.tracker, .link] s (handleSpeed p s).state := by
  unfold handleSpeed
  split
  · exact .refl _ s
  · split
    · split
      · exact validReport_only _ s
      · exact (withLink_only s _).mono (by decide)
    · exact .refl _ s

theorem startClass_only (k : AnnClass) (r : Roles) (s : State) : Only [.arbiter, .link] s (startClass k r s) := by
  unfold startClass
  dsimp only
  split
  · exact ((withArbiter_only s _).comp (post_only _ _) (n := [.arbiter, .link])).comp (arbitrate_only _)
  · exact Only.ite (fun _ => .refl _ s) fun _ => (withArbiter_only s _).comp (post_only _ _)
  · exact Only.ite (fun _ => .refl _ s) fun _ => (withArbiter_only s _).comp (post_only _ _)

theorem handleAnnStart_only (p : List Byte) (s : State) : Only [.arbiter, .link] s (handleAnnStart p s).state := by
  unfold handleAnnStart
  split
  · split
    · exact .refl _ s
    · split
      · exact .refl _ s
      · exact startClass_only _ _ s
  · exact .refl _ s

theorem endClass_only (k : AnnClass) (s : State) : Only [.arbiter, .link] s (endClass k s).state := by
  unfold endClass
  dsimp only
  split
  · exact (withArbiter_only s _).comp (post_only _ _)
  · exact (withArbiter_only s _).comp (post_only _ _)
  · split <;> exact .refl _ s

theorem handleAnnEnd_only (p : List Byte) (s : State) : Only [.arbiter, .link] s (handleAnnEnd p s).state := by
  unfold handleAnnEnd
  split
  · split
    · exact .refl _ s
    · exact endClass_only _ s
  · exact .refl _ s

theorem accepted_only {l : List Block} (ok : Bool) (x : Status) {s t : State} (h : Only l s t) :
    Only l s (accepted ok x s t).state := by
  unfold accepted
  split
  · exact h
  · exact .refl _ s

/-- A table write touches the tables, and what their owners do at once. -/
theorem writeEntries_only (id : TableId) (first : Nat) (entries : List (List Byte)) (s : State) :
    Only [.tables, .ramp, .tracker, .output, .arbiter, .integrity, .read, .link] s
      (writeEntries id first entries s).state := by
  have sets : ∀ i l, Only [.tables, .ramp, .tracker, .output, .arbiter, .integrity, .read, .link] s
      (writeSets true i l s) := fun i l => (writeSets_only true i l s).mono (by decide)
  have nums : ∀ id l, Only [.tables, .ramp, .tracker, .output, .arbiter, .integrity, .read, .link] s
      (acceptNums id first entries.length l s) := fun id l => (acceptNums_only id _ _ l s).mono (by decide)
  cases id <;> dsimp only [writeEntries]
  case speedCurve =>
    split
    · exact .refl _ s
    · exact accepted_only _ _ ((acceptCurve_only _ s).mono (by decide))
  case classes =>
    split
    · exact .refl _ s
    · exact (acceptClasses_only _ s).mono (by decide)
  case route =>
    split
    · exact .refl _ s
    · exact (acceptRoute_only _ s).mono (by decide)
  case fixedSets => exact accepted_only _ _ (sets _ _)
  case bassSets => exact accepted_only _ _ (sets _ _)
  case trebleSets => exact accepted_only _ _ (sets _ _)
  all_goals exact accepted_only _ _ (nums _ _)

theorem handleTableWrite_only (p : List Byte) (s : State) :
    Only [.tables, .ramp, .tracker, .output, .arbiter, .integrity, .read, .link] s (handleTableWrite p s).state := by
  unfold handleTableWrite
  split
  · split
    · exact .refl _ s
    · split
      · exact .refl _ s
      · split
        · exact .refl _ s
        · exact writeEntries_only _ _ _ s
  · exact .refl _ s

theorem handleTableRead_only (p : List Byte) (s : State) : (handleTableRead p s).state = s := by
  unfold handleTableRead
  split
  · split
    · rfl
    · split
      · rfl
      · split <;> rfl
  · rfl

theorem acceptHost_only (op : HostOp) (s : State) : Only [.store] s (acceptHost op s) :=
  Only.ite (fun _ => withStore_only s _) fun _ => withStore_only s _

theorem handleSave_only (p : List Byte) (s : State) : Only [.store, .integrity] s (handleSave p s).state := by
  unfold handleSave
  split
  · split
    · exact .refl _ s
    · split
      · exact .refl _ s
      · split
        · split
          · exact .refl _ s
          · exact (withIntegrity_only s _).comp (acceptHost_only _ _)
        · split
          · exact (acceptHost_only _ s).mono (by decide)
          · exact (acceptHost_only _ s).mono (by decide)
  · exact .refl _ s

theorem handleClose_only (s : State) : Only [.store] s (handleClose s).state := by
  unfold handleClose
  split
  · exact .refl _ s
  · split
    · exact .refl _ s
    · split
      · exact .refl _ s
      · exact acceptHost_only _ s

theorem writePatch_only (t : PatchTable) (i : Nat) (v : Int) (s : State) :
    Only [.tables, .ramp, .tracker, .output, .link] s (writePatch t i v s) := acceptNums_only _ _ _ _ s

theorem handlePatchPut_only (p : List Byte) (s : State) :
    Only [.tables, .ramp, .tracker, .output, .patches, .link] s (handlePatchPut p s).state := by
  unfold handlePatchPut
  split
  · split
    · exact .refl _ s
    · dsimp only
      split
      · exact .refl _ s
      · split
        · exact .refl _ s
        · split
          · exact .refl _ s
          · exact (writePatch_only _ _ _ s).comp (withPatches_only _ _)
  · exact .refl _ s

theorem handlePatchDrop_only (p : List Byte) (s : State) : Only [.patches] s (handlePatchDrop p s).state := by
  unfold handlePatchDrop
  split
  · split
    · exact .refl _ s
    · split
      · exact .refl _ s
      · exact withPatches_only s _
  · exact .refl _ s

theorem handleCounters_only (p : List Byte) (s : State) :
    Only [.integrity, .output, .link] s (handleCounters p s).state := by
  unfold handleCounters
  split
  · refine Only.ite (fun _ => ?_) fun _ => .refl _ s
    exact ((withLink_only s _).comp (withIntegrity_only _ _) (n := [.integrity, .link])).comp (mapOut_only _ _)
  · exact .refl _ s

theorem handleClearHistory_only (s : State) : Only [.record] s (handleClearHistory s).state := withRecord_only s _

theorem handleRestart_only (s : State) : Only [.link] s (handleRestart s).state := withLink_only s _

/-! ## What the store's completions change -/

theorem hostDone_only (op : HostOp) (ok : Bool) (s : State) : Only [.store, .link] s (hostDone op ok s) :=
  (withStore_only s _).comp (post_only _ _)

theorem completeSave_only (ok : Bool) (s : State) :
    Only [.store, .integrity, .read, .link] s (completeSave ok s) := by
  have done : ∀ op, Only [.store, .integrity, .read, .link] s (grantNext (hostDone op ok s)) :=
    fun op => (hostDone_only op ok s).comp (grantNext_only _)
  unfold completeSave
  split
  · dsimp only
    split
    · exact ((hostDone_only _ ok s).comp (withIntegrity_only _ _) (n := [.store, .integrity, .link])).comp
        (grantNext_only _)
    · exact done _
  · exact done _
  · exact done _
  · exact .refl _ s

theorem completeClose_only (ok : Bool) (s : State) :
    Only [.store, .integrity, .read, .link] s (completeClose ok s) := by
  unfold completeClose
  split
  · exact (hostDone_only _ ok s).comp (grantNext_only _)
  · exact .refl _ s

/-! ## What they post -/

theorem hostDone_posts (op : HostOp) (ok : Bool) (s : State) : Posts s (hostDone op ok s) := (post_posts _ _).after rfl

theorem completeSave_posts (ok : Bool) (s : State) : Posts s (completeSave ok s) := by
  unfold completeSave
  split
  · dsimp only
    split
    · exact ((hostDone_posts _ ok s).then rfl).trans (grantNext_posts _)
    · exact (hostDone_posts _ ok s).trans (grantNext_posts _)
  · exact (hostDone_posts _ ok s).trans (grantNext_posts _)
  · exact (hostDone_posts _ ok s).trans (grantNext_posts _)
  · exact .refl s

theorem completeClose_posts (ok : Bool) (s : State) : Posts s (completeClose ok s) := by
  unfold completeClose
  split
  · exact (hostDone_posts _ ok s).trans (grantNext_posts _)
  · exact .refl s

theorem startClass_posts (k : AnnClass) (r : Roles) (s : State) : Posts s (startClass k r s) := by
  unfold startClass
  dsimp only
  split
  · refine Posts.trans ?_ (arbitrate_posts _)
    exact (post_posts _ _).after rfl
  · exact .ite (fun _ => .refl s) fun _ => (post_posts _ _).after rfl
  · exact .ite (fun _ => .refl s) fun _ => (post_posts _ _).after rfl

theorem endClass_posts (k : AnnClass) (s : State) : Posts s (endClass k s).state := by
  unfold endClass
  dsimp only
  split
  · exact (post_posts _ _).after rfl
  · exact (post_posts _ _).after rfl
  · split <;> exact .refl s

theorem accepted_posts (ok : Bool) (x : Status) {s t : State} (h : Posts s t) : Posts s (accepted ok x s t).state := by
  unfold accepted
  split
  · exact h
  · exact .refl s

theorem acceptCurve_posts (l : List CurvePoint) (s : State) : Posts s (acceptCurve l s) :=
  .of_same (acceptCurve_only l s).link

theorem acceptRoute_posts (l : List Route) (s : State) : Posts s (acceptRoute l s) :=
  .of_same (acceptRoute_only l s).link

theorem writeEntries_posts (id : TableId) (first : Nat) (entries : List (List Byte)) (s : State) :
    Posts s (writeEntries id first entries s).state := by
  cases id <;> dsimp only [writeEntries]
  case speedCurve =>
    split
    · exact .refl s
    · exact accepted_posts _ _ (acceptCurve_posts _ s)
  case classes =>
    split
    · exact .refl s
    · exact acceptClasses_posts _ s
  case route =>
    split
    · exact .refl s
    · exact acceptRoute_posts _ s
  case fixedSets => exact accepted_posts _ _ (writeSets_posts _ _ _ s)
  case bassSets => exact accepted_posts _ _ (writeSets_posts _ _ _ s)
  case trebleSets => exact accepted_posts _ _ (writeSets_posts _ _ _ s)
  all_goals exact accepted_posts _ _ (acceptNums_posts _ _ _ _ s)

end Sys2Proof
end

