-- ==== Sys2Proof/Laws/Tables.lean ====
section
/-! SUPPORT. The owners' checks say what the constraints of the spec say: once for each check. -/

set_option Elab.async false

namespace Sys2Proof

open Sys2Proof.Machine

theorem allIn_iff (lo hi : Int) (l : List Int) : allIn lo hi l = true ↔ Within lo hi l := by
  simp [allIn, Within]

theorem rising_iff : ∀ l : List Int, rising l = true ↔ l.Pairwise (· ≤ ·)
  | [] => by simp [rising]
  | [a] => by simp [rising]
  | a :: b :: rest => by
    have ih := rising_iff (b :: rest)
    rw [rising, Bool.and_eq_true, ih, decide_eq_true_eq, List.pairwise_cons (l := b :: rest), List.forall_mem_cons]
    refine and_congr_left fun h => ⟨fun hab => ⟨hab, fun x hx => ?_⟩, fun h => h.1⟩
    exact hab.trans ((List.pairwise_cons.mp h).1 x hx)

theorem levelOk_iff {n : Nat} {l : List Int} (hl : l.length = n + 1) (lo hi first : Int) :
    levelOk lo hi first l = true ↔ l.head? = some first ∧ l.Pairwise (· ≤ ·) ∧ Within lo hi l := by
  cases l with
  | nil => simp at hl
  | cons a rest => simp [levelOk, allIn_iff, rising_iff]; tauto

/-- The GLOBALS validation over a table of 17 entries (R188). -/
theorem globalsOk_iff {l : List Int} (hl : l.length = 17) : globalsOk l = true ↔ GlobalsMeet l := by
  obtain ⟨a, b, c, d, e, f, g, h, i, j, k, m, n, o, p, q, r, rfl⟩ :
      ∃ a b c d e f g h i j k m n o p q r, l = [a, b, c, d, e, f, g, h, i, j, k, m, n, o, p, q, r] := by
    match l, hl with
    | [a, b, c, d, e, f, g, h, i, j, k, m, n, o, p, q, r], _ => exact ⟨a, b, c, d, e, f, g, h, i, j, k, m, n, o, p, q, r, rfl⟩
  simp [globalsOk, GlobalsMeet, globalRanges, Global.index]
  tauto

/-- The owner's check on a whole table of numbers is its constraint (R8, R32, R33, R188). -/
theorem numsOk_iff (id : TableId) {l : List Int} (hl : l.length = id.entries) :
    numsOk id l = true ↔ NumbersMeet id l := by
  cases id
  case volume | annVolume | balance | fade => exact levelOk_iff hl _ _ _
  case globals => exact globalsOk_iff hl
  case trim | ceiling | annTrim | sdvWeight | delay => exact allIn_iff _ _ _
  all_goals exact ⟨fun _ => trivial, fun _ => rfl⟩

theorem pointsRise_iff : ∀ l : List (Nat × Nat),
    pointsRise l = true ↔ l.Pairwise fun p q => p.1 < q.1 ∧ p.2 ≤ q.2
  | [] => by simp [pointsRise]
  | [a] => by simp [pointsRise]
  | a :: b :: rest => by
    have ih := pointsRise_iff (b :: rest)
    rw [pointsRise, Bool.and_eq_true, ih, List.pairwise_cons (l := b :: rest), List.forall_mem_cons, Bool.and_eq_true,
      decide_eq_true_eq, decide_eq_true_eq]
    refine and_congr_left fun h => ⟨fun hab => ⟨hab, fun x hx => ?_⟩, fun h => h.1⟩
    have := (List.pairwise_cons.mp h).1 x hx
    exact ⟨hab.1.trans this.1, hab.2.trans this.2⟩

theorem usedFirst_iff : ∀ l : List CurvePoint,
    (l.dropWhile (·.inUse)).all (fun p => !p.inUse) = true ↔ l.Pairwise fun p q => q.inUse = true → p.inUse = true
  | [] => by simp
  | a :: rest => by
    have ih := usedFirst_iff rest
    rw [List.pairwise_cons, ← ih]
    cases h : a.inUse <;> simp [h]
    intro h2 x hx
    exact h2 x (List.dropWhile_suffix _ |>.subset hx)

/-- The owner's check on a whole SPEED_CURVE with every field in its range is its constraint (R88). -/
theorem curveOk_iff (l : List CurvePoint) :
    (l.all CurvePoint.inRange && curveOk l) = true ↔ CurveMeets l := by
  have hp := pointsRise_iff (inUsePoints l)
  rw [inUsePoints, List.pairwise_map] at hp
  cases l with
  | nil => simp [curveOk, CurveMeets, inUsePoints]
  | cons a rest =>
    have hu := usedFirst_iff (a :: rest)
    simp only [curveOk, CurveMeets, Bool.and_eq_true, hu, decide_eq_true_eq, inUsePoints, hp, List.length_map]
    simp [CurvePoint.inRange]
    tauto

/-- What the release examines in a FACTORY region of full tables is that every table meets its owner's constraints and every
set is stable (R101, R162). -/
theorem imageOk_iff {f : FactoryImage} (hf : TablesFull f.tables) :
    imageOk f = true ↔ TablesMeet f.tables ∧ ∀ e ∈ f.sets, stable e.words = true := by
  have hn : (TableId.all.all fun id => numsOk id (f.tables.nums id)) = true ↔
      ∀ id ∈ numberTables, NumbersMeet id (f.tables.nums id) := by
    rw [List.all_eq_true]
    have h := fun id hid => numsOk_iff id (hf.1 id hid)
    refine ⟨fun ha id hid => (h id hid).mp (ha id (by cases id <;> decide)), fun ha id _ => ?_⟩
    by_cases hid : id ∈ numberTables
    · exact (h id hid).mpr (ha id hid)
    · cases id <;> first | rfl | exact absurd (by decide) hid
  have hc := curveOk_iff f.tables.speedCurve
  rw [imageOk, TablesMeet, Bool.and_eq_true, Bool.and_eq_true, Bool.and_eq_true, Bool.and_eq_true, hn, hc]
  simp [ClassEntry.inRange, Route.inRange, and_assoc]

/-! ## Entries on the link -/

theorem zoneOfCode (n : Nat) : Zone.ofCode n = [Zone.front, .rear, .cabin][n]? := by
  match n with
  | 0 | 1 | 2 | _ + 3 => rfl

theorem legOfCode (n : Nat) : Leg.ofCode n = [Leg.left, .right, .sum][n]? := by
  match n with
  | 0 | 1 | 2 | _ + 3 => rfl

theorem sideOfCode (n : Nat) : Side.ofCode n = [Side.left, .centre, .right][n]? := by
  match n with
  | 0 | 1 | 2 | _ + 3 => rfl

theorem rowOfCode (n : Nat) : Row.ofCode n = [Row.front, .mid, .back][n]? := by
  match n with
  | 0 | 1 | 2 | _ + 3 => rfl

/-- Four bytes are read as a CH_ROUTE entry exactly where they are one (R9, R190). -/
theorem routeOfBytes_iff (b : Vector Byte 4) (r : Route) : Route.ofBytes b.toList = some r ↔ RouteReads b r := by
  obtain ⟨b0, b1, b2, b3, rfl⟩ : ∃ b0 b1 b2 b3, b = #v[b0, b1, b2, b3] :=
    ⟨b[0], b[1], b[2], b[3], by ext i hi; interval_cases i <;> rfl⟩
  have h0 : (b0.extractLsb' 4 2).toNat = b0.toNat / 16 % 4 := by simp [Nat.shiftRight_eq_div_pow]
  have h1 : (b0.extractLsb' 2 2).toNat = b0.toNat / 4 % 4 := by simp [Nat.shiftRight_eq_div_pow]
  have h2 : (b0.extractLsb' 0 2).toNat = b0.toNat % 4 := by simp
  have h3 : (b1.extractLsb' 6 2).toNat = b1.toNat / 64 := by
    have := b1.isLt
    simp [Nat.shiftRight_eq_div_pow]; omega
  have h4 : (b2.extractLsb' 4 4).toNat = b2.toNat / 16 := by
    have := b2.isLt
    simp [Nat.shiftRight_eq_div_pow]; omega
  obtain ⟨en, zone, leg, side, row, ex, seats, tg, pol⟩ := r
  simp only [RouteReads, Vector.toList_mk, Route.ofBytes, h0, h1, h2, h3, h4, zoneOfCode, legOfCode, sideOfCode,
    rowOfCode, Option.bind_eq_bind, Option.bind_eq_some_iff]
  simp
  constructor
  · rintro ⟨hz, hl, hs, hr, ⟨h16, h3⟩, rfl, rfl, rfl, rfl, rfl⟩
    exact ⟨⟨rfl, hz, hl, hs⟩, ⟨hr, rfl, rfl⟩, ⟨rfl, h16⟩, rfl, h3⟩
  · rintro ⟨⟨rfl, hz, hl, hs⟩, ⟨hr, rfl, rfl⟩, ⟨rfl, h16⟩, rfl, h3⟩
    exact ⟨hz, hl, hs, hr, ⟨h16, h3⟩, rfl, rfl, rfl, rfl, rfl⟩

theorem yesNo_iff (b : Byte) (x : Bool) : yesNo b = some x ↔ b = if x = true then 1 else 0 := by
  unfold yesNo
  cases x <;> by_cases h0 : b = 0 <;> by_cases h1 : b = 1 <;> simp_all

/-- Five bytes are read as a CLASSES entry exactly where they are one (R110, R111, R190). -/
theorem classOfBytes_iff (b : Vector Byte 5) (e : ClassEntry) :
    ClassEntry.ofBytes b.toList = some e ↔ ClassReads b e := by
  obtain ⟨b0, b1, b2, b3, b4, rfl⟩ : ∃ b0 b1 b2 b3 b4, b = #v[b0, b1, b2, b3, b4] :=
    ⟨b[0], b[1], b[2], b[3], b[4], by ext i hi; interval_cases i <;> rfl⟩
  obtain ⟨level, duck, most, resume⟩ := e
  simp only [ClassReads, Vector.toList_mk, ClassEntry.ofBytes, Option.bind_eq_bind, Option.bind_eq_some_iff, yesNo_iff,
    List.getElem_toArray, List.getElem_cons_zero, List.getElem_cons_succ, Vector.getElem_mk]
  constructor
  · rintro ⟨a, ha, h⟩
    split at h
    · cases h
    · cases h
      rename_i hr
      exact ⟨⟨rfl, not_lt.mp fun h => hr (.inl h)⟩, ⟨rfl, not_lt.mp fun h => hr (.inr h)⟩, rfl, ha⟩
  · rintro ⟨⟨rfl, hl⟩, ⟨rfl, hd⟩, rfl, ha⟩
    exact ⟨resume, ha, if_neg (not_or.mpr ⟨not_lt.mpr hl, not_lt.mpr hd⟩)⟩

/-- Three bytes are read as a SPEED_CURVE entry exactly where they are one (R87, R88, R190). -/
theorem curveOfBytes_iff (b : Vector Byte 3) (p : CurvePoint) :
    CurvePoint.ofBytes b.toList = some p ↔ CurveReads b p := by
  obtain ⟨b0, b1, b2, rfl⟩ : ∃ b0 b1 b2, b = #v[b0, b1, b2] :=
    ⟨b[0], b[1], b[2], by ext i hi; interval_cases i <;> rfl⟩
  obtain ⟨speed, boost, inUse⟩ := p
  simp only [CurveReads, Vector.toList_mk, CurvePoint.ofBytes, Option.bind_eq_bind, Option.bind_eq_some_iff, yesNo_iff,
    List.getElem_toArray, List.getElem_cons_zero, List.getElem_cons_succ, Vector.getElem_mk]
  constructor
  · rintro ⟨a, ha, h⟩
    split at h
    · cases h
    · cases h
      exact ⟨rfl, ⟨rfl, not_lt.mp ‹_›⟩, ha⟩
  · rintro ⟨rfl, ⟨rfl, hb⟩, ha⟩
    exact ⟨inUse, ha, if_neg (not_lt.mpr hb)⟩

end Sys2Proof
end

