-- ==== Sys2Proof/WellFormed.lean ====
section
/-! DEFINITION. Which commands can arrive: what the framing, the CRC and the comparator rule out. -/

namespace Sys2Proof

/-- A payload that a frame can carry: LENGTH is at most 250 (R177). -/
def payloadFits (payload : List Byte) : Bool := payload.length ≤ 248

/-- A command that can arrive at the part. -/
def Instr.wellFormed : Instr → Bool
  | .set _ p | .commit _ p | .query _ p | .speed _ p | .annStart _ p | .annEnd _ p | .tableWrite _ p
  | .tableRead _ p | .save _ p | .closeFactory _ p | .patchPut _ p | .patchDrop _ p | .counters _ p
  | .clearHistory _ p | .restart _ p => payloadFits p
  | .badKind kind _ p => payloadFits p && !(1 ≤ kind.toNat && kind.toNat ≤ 15)
  | .crcError body crc =>
    match body with
    | [] => false
    | len :: rest => 2 ≤ len.toNat && len.toNat ≤ 250 && rest.length = len.toNat && crc != Machine.crc16 body
  | .frameLengthInvalid len => len.toNat < 2 || 250 < len.toNat
  | .upset _ flips checkFlips => flips != ⟨0, 0, 0, 0, 0⟩ || checkFlips != 0
  | .storedCopyDamaged _ flips => flips != ⟨0, 0, 0, 0, 0⟩
  | .supplyReading mv | .runComplete mv | .settleComplete mv => 6000 ≤ mv
  | .linkGap _ | .frameSent | .commitTaken | .plannerBoundary | .rampBoundary | .rampStep | .drainCompletion _
  | .outputStageStep | .applyDelay | .eqBoundary | .scannerCheck | .readSetBegin | .readSetComplete _
  | .arbiterBoundary | .expiry | .speedTrackerBoundary | .staleTimeout | .windowEnd | .pulseCounted _ | .supplyCut
  | .resetPin | .resetRelease _ | .loadComplete | .hostOperationBegin | .saveComplete _ | .closeComplete _
  | .samplePeriod _ | .powerLoss => true

end Sys2Proof
end

