-- ==== Sys2Proof/Tests/Slice0.lean ====
section
/-! SUPPORT. Own tests: ill-formed commands refused, one step of each command with a result from the spec's worked examples
and rules, and states that meet the hypotheses of the statements. -/

set_option Elab.async false

namespace Sys2Proof.Tests

open Sys2Proof Sys2Proof.Machine

/-! ## Small states -/

/-- The part RUNNING: STARTUP gone, the FACTORY region VALID, the store controller free, nothing on the link. -/
def running : State :=
  { State.reset with
    startup := ⟨.running, 0⟩
    output := List.replicate 24 (OutChan.reset.removeReason .startup)
    store := { Store.new with factoryState := .valid } }

/-- The same part while its transmitter sends a reply. -/
def sending : State := running.withLink { Link.reset with tx := some ⟨0x82, 1, [0]⟩ }

/-- The state that a command leaves. -/
def after (c : Instr) (s : State) : State :=
  match exec c s with
  | .next t => t
  | _ => s

/-- The reply frames of a state: the one in transmission and those that wait. -/
def replies (s : State) : List Frame := s.link.tx.toList ++ s.link.replies

/-- GLOBALS with one entry replaced. -/
def withGlobal (g : Global) (v : Int) (s : State) : State :=
  s.withTables { s.tables with globals := s.tables.globals.set g.index v }

/-- The output stage with one channel's record replaced. -/
def withChannel (c : Nat) (o : OutChan) (s : State) : State := s.withOutput (s.output.set c o)

/-- The coefficient records with one set's replaced. -/
def withSet (i : Nat) (e : CoeffSet) (s : State) : State :=
  s.withIntegrity { s.integrity with sets := s.integrity.sets.set i e }

/-- An enabled channel, its fader in a state at a level with no reason to close. -/
def openChan (x : FaderState) (level : Int) : OutChan :=
  OutChan.show { OutChan.reset with fader := ⟨level, x, ⟨false, false, false, false, false⟩⟩ }

/-- A class record in a state for the driver's seat. -/
def classIn (x : ClassState) : ClassRec := ⟨x, ⟨true, false, false, false⟩, .none, 0⟩

/-- Two ACTIVE classes: NAV in slot 1 and PARK in slot 2. -/
def twoActive : State :=
  sending.withArbiter
    ⟨⟨ClassRec.reset, classIn (.active .slot2), ClassRec.reset, classIn (.active .slot1)⟩, ⟨.active .nav, .active .park⟩⟩

/-- Slot 2 drained and handed to the arbiter while ALERT waits and NAV plays in slot 1. -/
def drained : State :=
  (sending.withArbiter
    ⟨⟨classIn .pending, ClassRec.reset, ClassRec.reset, classIn (.active .slot1)⟩, ⟨.active .nav, .draining⟩⟩).withRamp
    { Ramp.reset with handed := ⟨false, true⟩ }

/-- The tracker counting wheel pulses. -/
def counting : State := (withGlobal .speedSource 1 sending).withTracker { Tracker.reset with state := .pulse }

/-- Set 33 SUSPECT and waiting for its restore read. -/
def suspect33 : State :=
  let s := withSet 33 { CoeffSet.reset with state := .suspect } sending
  s.withIntegrity { s.integrity with queue := [33] }

/-- The restore read of set 33 in progress; its stored copy passed its check. -/
def reading33 : State :=
  let s := withSet 33 { CoeffSet.reset with state := .restoring, unsaved := true } sending
  (s.withRead (some ⟨33, false, some passThrough⟩)).withStore { s.store with running := some .readSet }

/-- A SAVE DEALER running. -/
def saving : State := sending.withStore { sending.store with running := some (.host (.saveDealer [])) }

/-- A CLOSE running. -/
def closing : State := sending.withStore { sending.store with running := some (.host .close) }

/-- LOAD running at a new part's first release. -/
def loading : State := State.reset.withLink sending.link

/-- LOAD running with a VALID FACTORY region. -/
def loadingValid : State := loading.withStore { loading.store with factoryState := .valid }

/-- Held by the supply comparator. -/
def cut : State := after .supplyCut running

/-- Four replies wait while a frame is sent. -/
def crowded : State := sending.withLink { sending.link with replies := List.replicate 4 ⟨0x82, 1, [0]⟩ }

/-- A coefficient set whose recursion grows: |a2| is 2^22 (R101). -/
def growing : Words := ⟨0, 0, 0, 0, BitVec.ofInt 24 (-4194304)⟩

/-! ## Commands that cannot arrive -/

/-- A frame carries at most 248 bytes of payload (R177). -/
theorem test_payload_of_249_refused : (Instr.set 0 (List.replicate 249 0)).wellFormed = false := by decide +kernel

/-- Kind 0x0F is a request kind (R180). -/
theorem test_bad_kind_of_request_refused : (Instr.badKind 0x0F 0 []).wellFormed = false := by decide

/-- A frame whose CRC agrees is no CRC_ERROR (R178). -/
theorem test_crc_error_with_good_crc_refused :
    (Instr.crcError [2, 0x02, 7] (crc16 [2, 0x02, 7])).wellFormed = false := by decide +kernel

/-- A body shorter than its LENGTH is no frame (R177). -/
theorem test_crc_error_of_short_body_refused : (Instr.crcError [3, 0x02, 7] 0).wellFormed = false := by decide +kernel

/-- 250 is a good LENGTH (R177). -/
theorem test_good_length_refused : (Instr.frameLengthInvalid 250).wellFormed = false := by decide

/-- An upset changes a bit (R147). -/
theorem test_empty_upset_refused : (Instr.upset 0 ⟨0, 0, 0, 0, 0⟩ 0).wellFormed = false := by decide

/-- Damage changes a bit (R147). -/
theorem test_empty_damage_refused : (Instr.storedCopyDamaged 0 ⟨0, 0, 0, 0, 0⟩).wellFormed = false := by decide

/-- Below 6.0 V the comparator holds the part, and no reading is taken (R142). -/
theorem test_reading_below_cut_refused : (Instr.supplyReading 5999).wellFormed = false := by decide

/-- A held SET is well formed. -/
theorem test_set_well_formed : (Instr.set 0x11 [1, 1, 25, 3, 0xFD]).wellFormed = true := by decide

/-! ## Arithmetic and layouts -/

/-- The CRC's generator and initial value are those of R178; their published check value over the digits 1 to 9 is 0x29B1. -/
theorem test_crc_check_value :
    crc16 [0x31, 0x32, 0x33, 0x34, 0x35, 0x36, 0x37, 0x38, 0x39] = 0x29B1 := by decide +kernel

/-- R13's rounding: 3/2 gives 2, −3/2 gives −1, −5/2 gives −2. -/
theorem test_half_rounds_up : roundHalfUp 1 3 = 2 ∧ roundHalfUp 1 (-3) = -1 ∧ roundHalfUp 1 (-5) = -2 := by decide

/-- Gain words named in 01 section 1.6 and 02 section 2.10. -/
theorem test_gain_words :
    gainWord (-24) = 525533 ∧ gainWord 0 = 1048576 ∧ gainWord (-480) = 0 ∧ gainWord (-100) = 58966 ∧
      gainWord 12 = 1481153 := by decide +kernel

/-- R89's curve at 100, 103 and 98 km/h (04 section 4.11). -/
theorem test_curve :
    let points := [(0, 0), (40, 8), (90, 24), (140, 36), (200, 40)]
    curveBoost 100 points = 26 ∧ curveBoost 103 points = 27 ∧ curveBoost 98 points = 25 ∧ curveBoost 3 points = 0 := by
  decide +kernel

/-- R54's example: after 23 steps the path stands at −64, and the next lands on −62. -/
theorem test_rise_from_mute :
    (fun g => rampPath g (-62) 8)^[23] (-480) = -64 ∧ (fun g => rampPath g (-62) 8)^[24] (-480) = -62 := by
  decide +kernel

/-- R55's examples: −232 goes to −480, and so does −250. -/
theorem test_silence_jump :
    rampPath (-216) (-480) 16 = -232 ∧ rampPath (-232) (-480) 16 = -480 ∧ rampPath (-250) (-480) 16 = -480 := by decide

/-- R102's examples of stable and unstable words (05 section 5.4). -/
theorem test_stability :
    stable ⟨0, 0, 0, BitVec.ofInt 24 (-7950000), 3760000⟩ = true ∧
      stable ⟨0, 0, 0, BitVec.ofInt 24 (-7950000), 3700000⟩ = false ∧ stable growing = false ∧
      stable passThrough = true := by decide +kernel

/-- 05 section 5.3: the section's output and its new history. -/
theorem test_section :
    let e : EqSection := ⟨900000, 800000, 950000, 850000, 25, false,
      ⟨4300000, BitVec.ofInt 24 (-7900000), 3700000, BitVec.ofInt 24 (-7950000), 3760000⟩⟩
    runSections [e] 1000000 =
      ([{ e with x1 := 1000000, x2 := 900000, y1 := 1074433, y2 := 950000 }], 1074433, false) := by decide +kernel

/-- 05 section 5.3: a section whose result leaves the internal range gives 2^31 − 1 and reports the saturation. -/
theorem test_section_saturates :
    (runSections [⟨0, 0, 0, 0, 29, false, ⟨8000000, 0, 0, 0, 0⟩⟩] 1500000000).2 = (2147483647, true) := by decide +kernel

/-- The word of section 3 of channel 5 is set 33 (05 section 5.1). -/
theorem test_reset_selection : ((State.reset.eq.getD 5 [])[3]?).map (·.selected) = some 33 := by decide +kernel

/-! ## Settings and the gain plan -/

/-- 02 section 2.9, third request: FADE 70 is taken as 20 and listed, the commit mark is set. -/
theorem test_set_clamps :
    let t := after (.set 0x13 [0, 4, 70, 10, 0]) running
    t.planner.waiting.getD 3 none = some 20 ∧ t.planner.waiting.getD 9 none = some 0 ∧
      t.planner.commitMark = true ∧ replies t = [⟨0x81, 0x13, [0x01, 4, 20]⟩] := by decide +kernel

/-- Id 18 names no setting: the whole request is refused with BAD_ID (R24, R31). -/
theorem test_set_unknown_id :
    let t := after (.set 1 [0, 1, 25, 18, 0]) running
    t.planner = running.planner ∧ replies t = [⟨0x81, 1, [0x05]⟩] := by decide +kernel

/-- An empty pending scene takes no mark (R29). -/
theorem test_commit_of_nothing :
    let t := after (.commit 2 []) running
    t.planner.commitMark = false ∧ replies t = [⟨0x82, 2, [0]⟩] := by decide +kernel

/-- 02 section 2.9: the commit brings VOL_FRONT 28 into force and empties the pending scene. -/
theorem test_commit_taken :
    let t := after .commitTaken (running.withPlanner { running.planner with
      waiting := (List.replicate 17 none).set 0 (some 28), commitMark := true })
    t.planner.live.val .volFront = 28 ∧ t.planner.waiting = List.replicate 17 none ∧ t.planner.commitMark = false := by
  decide +kernel

/-- The tuning and inputs of 02 section 2.10, for channels 2 and 17. -/
def tuned : State :=
  let t := Tables.builtin
  let route : List Route := (t.route.set 2 { Route.builtin with
      enabled := true, side := .left, row := .front, seats := ⟨true, false, false, false⟩ }).set 17
    { Route.builtin with
      enabled := true, zone := .rear, side := .right, row := .back, seats := ⟨false, false, false, true⟩ }
  let s := running.withTables { t with
    volume := t.volume.set 30 (-100), balance := t.balance.set 4 6, fade := t.fade.set 6 12
    annVolume := t.annVolume.set 20 (-88), globals := (t.globals.set 0 (-60)).set 10 8, route := route
    trim := (t.trim.set 2 (-8)).set 17 (-4), ceiling := (t.ceiling.set 2 24).set 17 24
    sdvWeight := (t.sdvWeight.set 2 16).set 17 8 }
  (s.withPlanner { s.planner with live := ((s.planner.live.set 0 30).set 2 4).set 3 (-6) }).withTracker
    { s.tracker with sf := 100, boost := 26, scaledBoost := 26, bassOffset := 3 }

/-- 02 section 2.10 before NAV: targets −100 and −91, both slot targets silent, bass step +3. -/
theorem test_targets_of_worked_case :
    let t := after .plannerBoundary tuned
    t.planner.targets.getD 2 PathGains.mute = ⟨-100, -480, -480⟩ ∧
      t.planner.targets.getD 17 PathGains.mute = ⟨-91, -480, -480⟩ ∧ t.planner.tone.getD 2 ⟨0, 0⟩ = ⟨3, 0⟩ := by
  decide +kernel

/-- 02 section 2.10 with NAV at the driver's seat in slot 1: channel 2 ducks to −124 and its slot path goes to −62. -/
theorem test_targets_with_nav :
    let t := after .plannerBoundary (tuned.withArbiter
      ⟨⟨ClassRec.reset, ClassRec.reset, ClassRec.reset, classIn (.active .slot1)⟩, ⟨.active .nav, .free⟩⟩)
    t.planner.targets.getD 2 PathGains.mute = ⟨-124, -62, -480⟩ ∧
      t.planner.targets.getD 17 PathGains.mute = ⟨-91, -480, -480⟩ := by decide +kernel

/-! ## Ramps, faders, delays -/

/-- 03 section 3.7: with RAMP_DIVIDER 1 no step falls on the first boundary after a step. -/
theorem test_ramp_boundary_without_step :
    let s := withGlobal .rampDivider 1 (running.withRamp { running.ramp with applied := List.replicate 24 ⟨-120, -480, -480⟩ })
    let t := after .rampBoundary s
    t.ramp.divider = 1 ∧ t.ramp.applied.getD 2 PathGains.mute = ⟨-120, -480, -480⟩ := by decide +kernel

/-- 03 section 3.7: the step that is due moves the path by PROG_SLEW 2 toward −100. -/
theorem test_ramp_step :
    let s := (withGlobal .progSlew 2 (withGlobal .rampDivider 1 running)).withPlanner
      { running.planner with targets := List.replicate 24 ⟨-100, -480, -480⟩ }
    let t := after .rampStep (s.withRamp ⟨List.replicate 24 ⟨-120, -480, -480⟩, 1, ⟨false, false⟩⟩)
    t.ramp.divider = 0 ∧ t.ramp.applied.getD 2 PathGains.mute = ⟨-118, -480, -480⟩ := by decide +kernel

/-- A DRAINING slot whose paths stand at −480 is handed to the arbiter (R57). -/
theorem test_drain_handed :
    (after .rampBoundary (sending.withArbiter { Arbiter.reset with slots := ⟨.free, .draining⟩ })).ramp.handed =
      ⟨false, true⟩ := by decide +kernel

/-- 03 section 3.8, boundary 8: −256 closes the fader, the pending 144 goes in and the fader opens from −480. -/
theorem test_output_boundary_applies_delay :
    let o : OutChan := { openChan .closing (-224) with
      fader := ⟨-224, .closing, ⟨false, false, false, true, false⟩⟩, pendingDelay := some 144 }
    let t := after .outputStageStep (withChannel 9 o sending)
    t.outChan 9 = openChan .opening (-480) ∧ t.line 9 = ⟨144, []⟩ := by decide +kernel

/-- 01 section 1.7, the boundary ending frame k: the counter is 1, and CLIP waits behind the frame being sent. -/
theorem test_output_boundary_counts_clip :
    let t := after .outputStageStep (withChannel 5 { openChan .opened 0 with clipMark := true } sending)
    (t.outChan 5).clipCount = 1 ∧ (t.outChan 5).inClipSet = true ∧ (t.outChan 5).clipMark = false ∧
      t.link.notices = [.clip] := by decide +kernel

/-- 03 section 3.9: a delay behind a closed fader goes in and leaves SUPPLY alone. -/
theorem test_apply_delay :
    let o : OutChan := { OutChan.reset with
      fader := ⟨-480, .closed, ⟨false, true, false, true, false⟩⟩, pendingDelay := some 48 }
    let t := after .applyDelay (withChannel 14 o sending)
    (t.outChan 14).fader = ⟨-480, .closed, ⟨false, true, false, false, false⟩⟩ ∧ t.line 14 = ⟨48, []⟩ := by decide +kernel

/-! ## Speed -/

/-- 04 section 4.4: v = 10 240 gives 102, v = 30 000 is taken as 255. -/
theorem test_speed_report :
    (after (.speed 3 [0x28, 0x00, 1]) sending).tracker.sf = 102 ∧
      (after (.speed 3 [0x75, 0x30, 1]) sending).tracker.sf = 255 := by decide +kernel

/-- A report with its valid flag clear is counted and takes no sample (R75). -/
theorem test_invalid_report :
    let t := after (.speed 3 [0x28, 0x00, 0]) sending
    t.link.invalidReports = 1 ∧ t.tracker = sending.tracker := by decide +kernel

/-- The boundary at which the counter reaches STALE_TIME × 100 = 1000 makes the state STALE (R77). -/
theorem test_tracker_goes_stale :
    let t := after .speedTrackerBoundary (sending.withTracker { Tracker.reset with state := .fresh, staleCount := 999 })
    t.tracker.state = .stale ∧ t.link.notices = [.speedState] := by decide +kernel

/-- The timeout alone, the counter at its limit (R77). -/
theorem test_stale_timeout :
    (after .staleTimeout (sending.withTracker { Tracker.reset with state := .fresh, staleCount := 1000 })).tracker.state =
      .stale := by decide +kernel

/-- 04 section 4.12, window 2: 30 pulses at 4000 pulses per km give 108. -/
theorem test_window_end :
    let t := after .windowEnd (counting.withTracker
      { counting.tracker with sf := 98, windowFrames := 249, windowPulses := 30 })
    t.tracker.sf = 108 ∧ t.tracker.lastSample = 108 ∧ t.tracker.windowPulses = 0 := by decide +kernel

/-- Under RISING a falling edge counts nothing (R80). -/
theorem test_pulse_counted :
    (after (.pulseCounted .rising) counting).tracker.windowPulses = 1 ∧
      (after (.pulseCounted .falling) counting).tracker.windowPulses = 0 := by decide +kernel

/-! ## Announcements (06 section 6.10) -/

/-- E1: NAV takes slot 1. -/
theorem test_ann_start_granted :
    (after (.annStart 1 [3, 1]) sending).arbiter =
      ⟨⟨ClassRec.reset, ClassRec.reset, ClassRec.reset, classIn (.active .slot1)⟩, ⟨.active .nav, .free⟩⟩ := by
  decide +kernel

/-- E3 with the built-in CLASSES: ALERT pre-empts NAV, the lower of the two; NAV resumes later, its slot drains. -/
theorem test_ann_start_preempts :
    let t := after (.annStart 1 [0, 1]) twoActive
    t.arbiter.slots = ⟨.draining, .active .park⟩ ∧ t.arbiter.classes.nav.state = .pending ∧
      t.arbiter.classes.alert.state = .pending := by decide +kernel

/-- E5: an ended class is FINISHED and its slot drains. -/
theorem test_ann_end :
    let t := after (.annEnd 1 [3]) twoActive
    t.arbiter.slots = ⟨.draining, .active .park⟩ ∧ t.arbiter.classes.nav.lastEnd = .finished ∧
      (t.link.replies.map (·.payload)) = [[0]] := by decide +kernel

/-- E8: the end of a class that has expired is LATE. -/
theorem test_ann_end_late :
    replies (after (.annEnd 1 [0]) (running.withArbiter
      ⟨⟨⟨.idle, Roles.empty, .expired, 8000⟩, ClassRec.reset, ClassRec.reset, ClassRec.reset⟩, ⟨.free, .free⟩⟩)) =
      [⟨0x86, 1, [0x0C]⟩] := by decide +kernel

/-- E4: the drained slot goes to ALERT. -/
theorem test_drain_completion :
    let t := after (.drainCompletion .slot2) drained
    t.arbiter.slots = ⟨.active .nav, .active .alert⟩ ∧ t.arbiter.classes.alert.state = .active .slot2 ∧
      t.ramp.handed = ⟨false, false⟩ := by decide +kernel

/-- The built-in NAV entry ends it at 30 000 frames; PARK has no limit (R126). -/
theorem test_arbiter_boundary_expires :
    let t := after .arbiterBoundary (twoActive.withArbiter { twoActive.arbiter with
      classes := twoActive.arbiter.classes.put .nav { classIn (.active .slot1) with timer := 29999 } })
    t.arbiter.classes.nav.lastEnd = .expired ∧ t.arbiter.slots = ⟨.draining, .active .park⟩ ∧
      t.arbiter.classes.park.timer = 1 := by decide +kernel

/-- The comparison alone does not count. -/
theorem test_expiry_below_limit :
    after .expiry (twoActive.withArbiter { twoActive.arbiter with
      classes := twoActive.arbiter.classes.put .nav { classIn (.active .slot1) with timer := 29999 } }) =
      twoActive.withArbiter { twoActive.arbiter with
        classes := twoActive.arbiter.classes.put .nav { classIn (.active .slot1) with timer := 29999 } } := by
  decide +kernel

/-! ## Supply (07 section 7.9) -/

/-- Reading 3: 7.0 V completes the run. -/
theorem test_third_low_reading :
    let t := after (.supplyReading 7000) (sending.withSupply ⟨.normal, .low, 2, 0, 72⟩)
    t.supply = ⟨.low, .none, 0, 0, 70⟩ ∧ t.link.notices = [.supplyState] := by decide +kernel

/-- Reading 402: 10.1 V is above LOW_LEAVE, and SETTLING begins. -/
theorem test_low_leaves :
    (after (.supplyReading 10100) (sending.withSupply ⟨.low, .none, 0, 0, 95⟩)).supply = ⟨.settling, .none, 0, 0, 101⟩ := by
  decide +kernel

/-- Reading 452: the fiftieth reading of SETTLING ends it, and SUPPLY is removed. -/
theorem test_settle_complete :
    let t := after (.settleComplete 14100) (sending.withSupply ⟨.settling, .none, 0, 49, 141⟩)
    t.supply.state = .normal ∧ (t.outChan 2).fader.reasons.supply = false := by decide +kernel

/-- Reading 2 completes no run. -/
theorem test_run_not_complete :
    let s := sending.withSupply ⟨.normal, .low, 1, 0, 84⟩
    after (.runComplete 7200) s = s := by decide +kernel

/-! ## Coefficient integrity and the equaliser (08 sections 8.7, 8.8) -/

/-- The scanner finds an upset of one bit at its position. -/
theorem test_scanner_finds_upset :
    let t := after .scannerCheck ((after (.upset 33 ⟨0, 0, 0, 1, 0⟩ 0) sending).withIntegrity
      { (after (.upset 33 ⟨0, 0, 0, 1, 0⟩ 0) sending).integrity with scanPos := 33 })
    (t.coeffSet 33).state = .suspect ∧ t.integrity.queue = [33] ∧ t.integrity.scanPos = 34 ∧
      (t.outChan 5).fader.reasons.fault = true ∧ t.link.notices = [.coeffState] := by decide +kernel

/-- After the last set the scan starts again at 0 (R150). -/
theorem test_scan_wraps :
    (after .scannerCheck (sending.withIntegrity { sending.integrity with scanPos := 343 })).integrity.scanPos = 0 := by
  decide +kernel

/-- An upset flips the bit and leaves the set's state. -/
theorem test_upset :
    ((after (.upset 343 ⟨1, 0, 0, 0, 0⟩ 0) sending).coeffSet 343).words.b0 = 4194305 ∧
      ((after (.upset 343 ⟨1, 0, 0, 0, 0⟩ 0) sending).coeffSet 343).state = .good := by decide +kernel

/-- Damage to a stored copy reaches the store alone. -/
theorem test_stored_copy_damaged :
    let t := after (.storedCopyDamaged 184 ⟨1, 0, 0, 0, 0⟩) sending
    t.store.factory.sets[184]? = some ⟨⟨4194305, 0, 0, 0, 0⟩, false⟩ ∧ t.integrity = sending.integrity := by
  decide +kernel

/-- Section 3 of channel 5 is bypassed at the boundary that finds set 33 not GOOD, with a clear history. -/
theorem test_eq_boundary_bypasses :
    ((after .eqBoundary suspect33).eq.getD 5 [])[3]? = some ⟨0, 0, 0, 0, 33, true, passThrough⟩ := by decide +kernel

/-- Step 3 of the EQ boundary finds a set in use whose check fails. -/
theorem test_eq_boundary_checks :
    let t := after .eqBoundary (after (.upset 33 ⟨0, 0, 0, 0, 1⟩ 0) sending)
    t.integrity.queue = [33] ∧ (t.coeffSet 33).state = .suspect := by decide +kernel

/-- The read of set 33 begins. -/
theorem test_read_set_begin :
    let t := after .readSetBegin suspect33
    t.read = some ⟨33, false, some passThrough⟩ ∧ (t.coeffSet 33).state = .restoring ∧ t.integrity.queue = [] ∧
      t.store.running = some .readSet := by decide +kernel

/-- The read completes: GOOD, one success, and (33, GOOD, reverted yes) as the last transition. -/
theorem test_read_set_complete :
    let t := after (.readSetComplete true) reading33
    (t.coeffSet 33).state = .good ∧ t.integrity.restored = 1 ∧ t.integrity.last = some ⟨33, .good, true⟩ ∧
      t.store.running = none := by decide +kernel

/-- A re-check that fails is a second failure. -/
theorem test_read_set_fails :
    let t := after (.readSetComplete false) reading33
    (t.coeffSet 33).state = .failed ∧ t.integrity.secondFailures = 1 := by decide +kernel

/-! ## The tuning store (09 sections 9.6, 9.7) -/

/-- SAVE DEALER is accepted and begins on the free controller. -/
theorem test_save :
    let t := after (.save 1 [1]) running
    t.store.running = some (.host (.saveDealer [])) ∧ replies t = [⟨0x89, 1, [0]⟩] := by decide +kernel

/-- A second save while one is outstanding is BUSY. -/
theorem test_save_busy : (after (.save 2 [2]) saving).link.replies = [⟨0x89, 2, [0x09]⟩] := by decide +kernel

/-- CLOSE_FACTORY of a region that is not VALID is NO_TUNING (R164, R180). -/
theorem test_close_without_tuning :
    replies (after (.closeFactory 4 []) (running.withStore { running.store with factoryState := .blank })) =
      [⟨0x8A, 4, [0x0F]⟩] := by decide +kernel

/-- A completed save leaves its region VALID and posts STORE_DONE. -/
theorem test_save_complete :
    let t := after (.saveComplete true) saving
    t.store.dealerState = .valid ∧ t.store.running = none ∧ t.link.notices = [.storeDone] := by decide +kernel

/-- A completed close sets the flag (R167). -/
theorem test_close_complete : (after (.closeComplete true) closing).store.closed = true := by decide +kernel

/-- A waiting save begins on the free controller. -/
theorem test_host_operation_begin :
    let t := after .hostOperationBegin (sending.withStore { sending.store with waiting := some (.saveDealer []) })
    t.store.running = some (.host (.saveDealer [])) ∧ t.store.waiting = none := by decide +kernel

/-- A new part ends LOADING in TUNELESS and reports READY (R174, R176). -/
theorem test_load_complete_tuneless :
    let t := after .loadComplete loading
    t.startup.state = .tuneless ∧ (t.outChan 0).fader.reasons.startup = true ∧ t.link.notices = [.ready] := by
  decide +kernel

/-- 09 section 9.6: over the placed tables, patch (VOLUME, 31, −80) is skipped and (VOLUME, 32, −76) holds. -/
theorem test_load_skips_patch :
    let low := [-480] ++ List.replicate 29 (-104) ++ [-100, -96, -92, -72]
    let s := loadingValid.withTables { Tables.builtin with volume := low ++ List.replicate 30 (-40) }
    let t := placePatches (s.withStore { s.store with
      dealer := [⟨.volume, 31, -80⟩, ⟨.volume, 32, -76⟩], dealerState := .valid })
    t.startup.skipped = 1 ∧ t.tables.volume.getD 31 0 = -96 ∧ t.tables.volume.getD 32 0 = -76 ∧
      t.patches.length = 2 := by decide +kernel

/-- 09 section 9.7: a save cut off leaves its region CORRUPT. -/
theorem test_supply_cut :
    let t := after .supplyCut saving
    t.held = true ∧ t.store.dealerState = .corrupt ∧ t.store.running = none ∧ t.hold.cutSeen = true := by decide +kernel

/-- The pin holds the part and silences its lines (R1, R175). -/
theorem test_reset_pin :
    let t := after .resetPin (sending.withAudio { Audio.reset with outputs := OutPorts.ofWords (List.replicate 24 1) })
    t.held = true ∧ t.audio.outputs = OutPorts.silent ∧ t.link.tx = none := by decide +kernel

/-- 09 section 9.7: the release records SUPPLY_CUT, the flag set and the count raised from 2 to 3. -/
theorem test_reset_release :
    let t := after (.resetRelease .supplyCut) (cut.withRecord ⟨.resetPin, false, 2⟩)
    t.record = ⟨.supplyCut, true, 3⟩ ∧ t.startup.state = .loading ∧ t.held = false := by decide +kernel

/-- RESET_N released while the supply is still below 6.0 V: the part stays in reset (R175). -/
theorem test_release_waits_for_the_supply :
    let t := after (.resetRelease .resetPin) (after .resetPin cut)
    t.held = true ∧ t.hold.pin = false ∧ t.startup = running.startup := by decide +kernel

/-- A stored CLASSES level above 3 makes the FACTORY region CORRUPT at the release (R111, R162). -/
theorem test_release_finds_class_out_of_range :
    let image := { running.store.factory with
      tables := { Tables.builtin with classes := builtinClasses.set 0 ⟨4, 80, 0, false⟩ } }
    (after (.resetRelease .supplyCut) (cut.withStore { cut.store with factory := image })).store.factoryState =
      .corrupt := by decide +kernel

/-- Below 3.0 V the retention memory is lost: the release is a POWER_ON with a count of 0 (R175). -/
theorem test_power_loss :
    (after (.resetRelease .supplyCut) (after .powerLoss (running.withRecord ⟨.resetPin, true, 2⟩))).record =
      ⟨.powerOn, false, 0⟩ := by decide +kernel

/-! ## Tables and patches -/

/-- A write that breaks the order of VOLUME is refused whole (R34). -/
theorem test_table_write_invalid :
    let t := after (.tableWrite 1 [1, 0, 31, 0xFE, 0x0C]) running
    t.tables = running.tables ∧ replies t = [⟨0x87, 1, [0x07]⟩] := by decide +kernel

/-- The last entry of VOLUME written as −1 (R32, R187). -/
theorem test_table_write_last_entry :
    let t := after (.tableWrite 1 [1, 0, 63, 0xFF, 0xFF]) running
    t.tables.volume.getD 63 0 = -1 ∧ replies t = [⟨0x87, 1, [0]⟩] := by decide +kernel

/-- VOLUME[62] and VOLUME[63] read back as −4 and 0 (R32, R189). -/
theorem test_table_read :
    replies (after (.tableRead 1 [1, 0, 62, 2]) running) = [⟨0x88, 1, [0, 0xFF, 0xFC, 0, 0]⟩] := by decide +kernel

/-- One past the end is BAD_RANGE (R189). -/
theorem test_table_read_bad_range :
    replies (after (.tableRead 1 [1, 0, 63, 2]) running) = [⟨0x88, 1, [0x06]⟩] := by decide +kernel

/-- A patch writes its entry and joins the list (R170). -/
theorem test_patch_put :
    let t := after (.patchPut 1 [8, 0, 23, 0xFF, 0xFC]) running
    t.tables.trim.getD 23 0 = -4 ∧ t.patches = [⟨.trim, 23, -4⟩] := by decide +kernel

/-- 09 section 9.6: CH_TRIM has no entry 40. -/
theorem test_patch_put_bad_range :
    replies (after (.patchPut 1 [8, 0, 40, 0, 0]) running) = [⟨0x8B, 1, [0x06]⟩] := by decide +kernel

/-- A drop removes the record and leaves the table (R171). -/
theorem test_patch_drop :
    let t := after (.patchDrop 1 [8, 0, 23]) (running.withPatches [⟨.trim, 23, -4⟩, ⟨.trim, 22, 1⟩])
    t.patches = [⟨.trim, 22, 1⟩] ∧ t.tables = running.tables := by decide +kernel

/-! ## The control link -/

/-- 10 section 10.8: item 1 shows 17 live values and the pending count. -/
theorem test_query_scene :
    replies (after (.query 0x14 [1, 0, 0]) running) =
      [⟨0x83, 0x14, [0, 20, 20, 0, 0, 0, 0, 0, 0, 4, 0, 0, 0, 0, 20, 20, 20, 20, 0]⟩] := by decide +kernel

/-- A channel is shown with the close reasons that the last boundary left, STARTUP among them, until the next one (R59). -/
theorem test_query_channel_shows_the_boundary :
    let reasons (s : State) := (replies (after (.query 1 [5, 0, 0]) s)).map fun f => f.payload.getD 16 0
    (running.outChan 0).fader.reasons.startup = false ∧ reasons running = [0x13] ∧
      reasons (after .outputStageStep running) = [0x12] := by decide +kernel

/-- QUERY is taken while LOADING, and other kinds are NOT_READY (R180). -/
theorem test_loading :
    (after (.query 1 [9, 0, 0]) loading).link.replies = [⟨0x83, 1, [0, 0]⟩] ∧
      (after (.commit 2 []) loading).link.replies = [⟨0x82, 2, [0x02]⟩] := by decide +kernel

/-- The clear flag zeroes what the reply has just shown (R184). -/
theorem test_counters :
    let t := after (.counters 1 [1]) (running.withLink { running.link with gaps := 258 })
    (replies t).map (·.payload.take 5) = [[0, 0, 0, 1, 2]] ∧ t.link.gaps = 0 := by decide +kernel

/-- The flag and the count go, the cause stays (R185). -/
theorem test_clear_history :
    (after (.clearHistory 1 []) (running.withRecord ⟨.supplyCut, true, 3⟩)).record = ⟨.supplyCut, false, 0⟩ := by
  decide +kernel

/-- A handled RESTART makes a reset pending (R185). -/
theorem test_restart : (after (.restart 1 []) running).link.restartPending = true := by decide +kernel

/-- The reset is taken when its reply has been sent (R185). -/
theorem test_restart_taken : (after .frameSent (after (.restart 1 []) running)).hold.restart = true := by decide +kernel

/-- The transmitter with nothing waiting goes idle (R181). -/
theorem test_frame_sent : (after .frameSent sending).link.tx = none := by decide +kernel

/-- Kind 0x10 is answered with kind 0x90 and BAD_KIND (R180). -/
theorem test_bad_kind : replies (after (.badKind 0x10 5 []) running) = [⟨0x90, 5, [0x04]⟩] := by decide +kernel

/-- 10 section 10.8, request 6: four replies wait, so it is discarded and counted. -/
theorem test_fifth_waiting_reply_discarded :
    let t := after (.tableRead 6 [15, 0, 0, 16]) crowded
    t.link.discards = 1 ∧ t.link.replies = crowded.link.replies := by decide +kernel

/-- A CRC that differs in one bit (R178). -/
theorem test_crc_error :
    let body : List Byte := [2, 0x02, 7]
    (after (.crcError body (crc16 body ^^^ 1)) running).link.crcErrors = 1 := by decide +kernel

/-- LENGTH 1 and LENGTH 251 are counted with the CRC errors (R177). -/
theorem test_frame_length_invalid :
    (after (.frameLengthInvalid 1) running).link.crcErrors = 1 ∧
      (after (.frameLengthInvalid 251) running).link.crcErrors = 1 := by decide +kernel

/-- A gap that SYNC ends leaves the assembler inside a frame (R177). -/
theorem test_link_gap :
    (after (.linkGap 0xA5) running).link = { Link.reset with gaps := 1, assembler := .started } := by decide +kernel

/-- A part that one byte reaches while its assembler collects the COMMIT frame A5 02 02 07 and the first CRC byte. -/
def collecting (b : RxByte) : State :=
  (running.withLink { Link.reset with assembler := .collecting 2 [0x02, 7, 0xB4] }).withReceived [b]

/-- What one step leaves. -/
def stepped (s : State) : State :=
  match step s with
  | .next t => t
  | _ => s

/-- The last CRC byte, 79 by R178 worked out by hand, makes a good frame: COMMIT is answered (R177, R178). -/
theorem test_byte_ends_frame :
    let t := stepped (collecting ⟨0x79, false⟩)
    replies t = [⟨0x82, 7, [0]⟩] ∧ t.link.assembler = .hunting ∧ t.link.crcErrors = 0 := by decide +kernel

/-- Another last byte spoils the frame: it is counted and not answered (R177). -/
theorem test_byte_spoils_frame :
    let t := stepped (collecting ⟨0x78, false⟩)
    replies t = [] ∧ t.link.crcErrors = 1 := by decide +kernel

/-- A late SYNC drops the partial frame and starts another (R177). -/
theorem test_late_byte :
    let t := stepped (collecting ⟨0xA5, true⟩)
    t.link.gaps = 1 ∧ t.link.assembler = .started ∧ replies t = [] := by decide +kernel

/-! ## The sample plane (01 section 1.6) -/

/-- The example's ports. -/
def examplePorts : Ports :=
  ⟨⟨#[1048576, 1048573, 0, 0, 0, 0, 0, 0], rfl⟩, ⟨#[0, 0, 0, 0, 0, 0, 0, 0], rfl⟩,
    ⟨#[2097152, 1000000, 0, 0, 0, 0, 0, 0], rfl⟩⟩

/-- The example's channel 5. -/
def example5 : State :=
  (withChannel 5 { openChan .opened 0 with polarity := .inverted } running).withRamp
    { Ramp.reset with applied := (List.replicate 24 PathGains.mute).set 5 ⟨-24, 0, -480⟩ }

/-- −2 622 684 is on its way to OUT_0 position 5, and the line carries what was made two periods before. -/
theorem test_sample_period :
    let t := after (.samplePeriod examplePorts) example5
    t.audio.stage1.getD 5 0 = BitVec.ofInt 24 (-2622684) ∧ t.audio.outputs.ofChannel 5 = 0 ∧ t.audio.clock = 1 ∧
      (t.outChan 5).clipMark = false := by decide +kernel

/-- Channel 9 leaves on OUT_1 at position 1 (R3, R6). -/
theorem test_output_position :
    let t := after (.samplePeriod examplePorts) (running.withAudio { Audio.reset with stage2 := (List.replicate 24 0).set 9 7 })
    t.audio.outputs.out1[1] = 7 ∧ t.audio.outputs.out0[1] = 0 := by decide +kernel

/-! ## States that meet the hypotheses of the statements

One theorem for each statement that has hypotheses, `witness_` and the statement's name. Where its clauses divide the values
of an operand, the witnesses stand at the ends of the ranges. -/

/-- `running` is awake, RUNNING and in order. -/
theorem running_handles : Handles running := by unfold Handles Awake LinkOk; decide +kernel

/-- `sending` is awake, RUNNING and in order. -/
theorem sending_handles : Handles sending := by unfold Handles Awake LinkOk; decide +kernel

/-- The built-in tables are valid. -/
theorem builtin_valid : TablesValid Tables.builtin := by
  have full : TablesFull Tables.builtin := by unfold TablesFull; decide +kernel
  refine ⟨full, fun id hid => (numsOk_iff id (full.1 id hid)).mp ?_, (curveOk_iff _).mp (by decide +kernel), ?_, ?_⟩
  · revert id
    decide +kernel
  all_goals decide +kernel

/-- No host operation: nothing to ask of its captured contents. -/
theorem none_waits {P : HostOp → Prop} (op : HostOp) (h : (none : Option HostOp) = some op) : P op := by cases h

/-- The tables of `sending` are valid. -/
theorem sending_tables : TablesOk sending :=
  ⟨builtin_valid, fun _ => builtin_valid, none_waits, fun _ h => by cases h⟩

/-- `sending` has its shape. -/
theorem sending_shape : ShapeOk sending := by
  refine ⟨?_, ?_, ?_, ?_, ?_, none_waits, fun _ h => by cases h⟩ <;> decide +kernel

/-- `running` has its shape. -/
theorem running_shape : ShapeOk running := sending_shape

/-- The tables of `running` are valid. -/
theorem running_tables : TablesOk running := sending_tables

/-- A queue of sets that are SUSPECT, and no other SUSPECT set. -/
theorem queue_ok (s : State) (hlen : s.integrity.sets.length = 344) (hnodup : s.integrity.queue.Nodup)
    (hin : ∀ i ∈ s.integrity.queue, i < 344 ∧ (s.coeffSet i).state = .suspect)
    (hall : ∀ p ∈ s.integrity.sets.zipIdx, p.1.state = .suspect → p.2 ∈ s.integrity.queue) : QueueOk s := by
  refine ⟨hlen, hnodup, fun i => ⟨hin i, fun h => hall (s.coeffSet i, i) ?_ h.2⟩⟩
  have hi : i < s.integrity.sets.length := hlen ▸ h.1
  rw [List.mem_zipIdx_iff_getElem?]
  simp [State.coeffSet, List.getD_eq_getElem?_getD, hi]

/-- No set of `sending` waits. -/
theorem sending_queue : QueueOk sending := by apply queue_ok <;> decide +kernel

/-- No read of `sending` is in progress. -/
theorem sending_read : ReadOk sending := ⟨by decide +kernel, fun _ h => by cases h⟩

/-- The slots of `sending` are FREE and no class waits. -/
theorem sending_settled : Settled sending :=
  ⟨fun k slot => by cases k <;> cases slot <;> decide +kernel, by decide +kernel⟩

/-- Set 33 alone waits. -/
theorem suspect33_queue : QueueOk suspect33 := by apply queue_ok <;> decide +kernel

/-- The read of set 33 is in order. -/
theorem reading33_read : ReadOk reading33 :=
  ⟨by decide +kernel, fun r h _ => by cases h; decide +kernel⟩

/-- `reading33` is awake and has its shape. -/
theorem reading33_awake : Awake reading33 ∧ ShapeOk reading33 := by
  refine ⟨by unfold Awake LinkOk; decide +kernel, ?_⟩
  refine ⟨?_, ?_, ?_, ?_, ?_, none_waits, fun _ h => by cases h⟩ <;> decide +kernel

/-! ### The machine -/

/-- A queue of two commands, an empty one with a byte that waits, and an empty one without. -/
theorem witness_StepTakesFrontCommand :
    (running.withPending [.commitTaken, .frameSent]).pending = .commitTaken :: [.frameSent] ∧
      ((running.withReceived [⟨0xA5, false⟩]).pending = [] ∧
        (running.withReceived [⟨0xA5, false⟩]).received = ⟨0xA5, false⟩ :: []) ∧
      running.pending = [] ∧ running.received = [] := by
  decide +kernel

/-- A part that SUPPLY_CUT holds, and a command that is not exempt. -/
theorem witness_EveryCommandAnswersNext :
    cut.held = true ∧ Instr.frameSent ≠ .supplyCut ∧ Instr.frameSent ≠ .resetPin ∧ Instr.frameSent ≠ .powerLoss ∧
      (∀ h, Instr.frameSent ≠ .resetRelease h) ∧ ∀ i f, Instr.frameSent ≠ .storedCopyDamaged i f := by
  refine ⟨by decide +kernel, ?_, ?_, ?_, ?_, ?_⟩ <;> simp

/-! ### Invariants -/

/-- A reply waits and is sent next. -/
theorem witness_LinkOrderKept :
    let s := crowded.withPending [.frameSent]
    LinkOk s.link ∧ step s = .next (after .frameSent crowded) := ⟨by unfold LinkOk; decide +kernel, rfl⟩

/-- The planner takes its boundary. -/
theorem witness_ShapeKept :
    let s := sending.withPending [.plannerBoundary]
    ShapeOk s ∧ step s = .next (after .plannerBoundary sending) := ⟨sending_shape, rfl⟩

/-- An entry of a level table is written. -/
theorem witness_TablesStayValid :
    let s := sending.withPending [.tableWrite 1 [1, 0, 63, 0xFF, 0xFF]]
    TablesOk s ∧ ∃ t, step s = .next t := ⟨sending_tables, _, rfl⟩

/-- Every fader of `running` is CLOSED for SUPPLY and DISABLED. -/
theorem witness_FadersFollowReasons :
    let s := sending.withPending [.settleComplete 14100]
    TablesOk s ∧ FadersOk s ∧ ∃ t, step s = .next t := by
  refine ⟨sending_tables, ?_, _, rfl⟩
  intro o ho
  obtain rfl : o = OutChan.reset.removeReason .startup := List.eq_of_mem_replicate ho
  unfold FaderOk
  decide +kernel

/-- SETTLING, RUNNING, and every channel disabled. -/
theorem witness_ReasonsFollowTheirOwners :
    let s := sending.withPending [.loadComplete]
    ReasonsOk s ∧ ∃ t, step s = .next t := by
  refine ⟨?_, _, rfl⟩
  unfold ReasonsOk SupplyOk StartupOk DisabledOk
  decide +kernel

/-- A class is started where both slots are FREE. -/
theorem witness_ArbitrationStaysSettled :
    let s := sending.withPending [.annStart 1 [3, 1]]
    Settled s ∧ ∃ t, step s = .next t := ⟨sending_settled, _, rfl⟩

/-- A set waits, and its read begins. -/
theorem witness_RestoreQueueHoldsSuspects :
    let s := suspect33.withPending [.readSetBegin]
    QueueOk s ∧ ReadOk s ∧ ∃ t, step s = .next t :=
  ⟨suspect33_queue, ⟨by decide +kernel, fun _ h => by cases h⟩, _, rfl⟩

/-- Every fixed set is GOOD, and one is upset. -/
theorem witness_FaultFollowsFixedSets :
    let s := sending.withPending [.upset 33 ⟨0, 0, 0, 1, 0⟩ 0]
    QueueOk s ∧ ReadOk s ∧ FaultOk s ∧ ∃ t, step s = .next t := by
  refine ⟨sending_queue, sending_read, ?_, _, rfl⟩
  unfold FaultOk
  decide +kernel

/-- A full list, and a record for a target it holds. -/
theorem witness_PatchListsStaySmall :
    let s := (sending.withPatches ((List.range 16).map fun i => ⟨.trim, i, 0⟩)).withPending [.patchPut 1 [8, 0, 15, 0, 1]]
    PatchesOk s ∧ ∃ t, step s = .next t := by
  refine ⟨⟨?_, ?_, none_waits, fun _ h => by cases h⟩, _, rfl⟩ <;> unfold PatchListOk <;> decide +kernel

/-- The tracker at the last count before the largest limit, every derived value at its largest. -/
theorem witness_TrackerStaysInRange :
    let s := (sending.withTracker ⟨.fresh, 255, 255, 4999, 249, 4095, 48, 48, 12⟩).withPending [.speedTrackerBoundary]
    TablesOk s ∧ TrackerOk s ∧ ∃ t, step s = .next t := by
  refine ⟨sending_tables, ?_, _, rfl⟩
  unfold TrackerOk
  decide +kernel

/-- The planner and the ramp unit as after reset. -/
theorem witness_GainsStayInRange :
    let s := sending.withPending [.rampBoundary]
    TablesOk s ∧ GainsOk s ∧ ∃ t, step s = .next t := by
  refine ⟨sending_tables, ?_, _, rfl⟩
  unfold GainsOk PathGains.within
  decide +kernel

/-- Clear lines and no pending delay. -/
theorem witness_DelayLinesStayInRange :
    let s := sending.withPending [.tableWrite 1 [12, 0, 0, 3, 0xC0]]
    TablesOk s ∧ LinesOk s ∧ ∃ t, step s = .next t := by
  refine ⟨sending_tables, ⟨by decide +kernel, ?_⟩, _, rfl⟩
  intro o ho d hd
  obtain rfl : o = OutChan.reset.removeReason .startup := List.eq_of_mem_replicate ho
  cases hd

/-! ### Settings and the gain plan -/

/-- One pair and seventeen pairs; ids 1 and 17 are settings, 0 and 18 are not. -/
theorem witness_SetFillsPendingScene :
    Handles running ∧ ShapeOk running ∧
      (1 ≤ [((1 : Byte), (63 : Byte))].length ∧ (List.replicate 17 ((17 : Byte), (32 : Byte))).length ≤ 17) ∧
      (1 ≤ (1 : Byte).toNat ∧ (1 : Byte).toNat ≤ 17 ∧ 1 ≤ (17 : Byte).toNat ∧ (17 : Byte).toNat ≤ 17) ∧
      ¬1 ≤ (0 : Byte).toNat ∧ ¬(18 : Byte).toNat ≤ 17 :=
  ⟨running_handles, running_shape, by decide, by decide, by decide⟩

/-- A scene waits with the mark set. -/
theorem witness_CommitTakesPendingScene :
    let s := sending.withPlanner { sending.planner with
      waiting := (List.replicate 17 none).set 8 (some 7), commitMark := true }
    Handles sending ∧ Awake s ∧ ShapeOk s ∧ s.planner.commitMark = true := by
  refine ⟨sending_handles, sending_handles.1, ?_, rfl⟩
  refine ⟨?_, ?_, ?_, ?_, ?_, none_waits, fun _ h => by cases h⟩ <;> decide +kernel

/-- The part awake. -/
theorem witness_PlannerBoundaryFollowsCommit : Awake tuned := by unfold Awake LinkOk; decide +kernel

/-- Volume step 0 is silent; step 30 at its own VOLUME entry is not. -/
theorem witness_ProgrammeTargetRule :
    running.tables.volume.getD 0 (-480) = -480 ∧ tuned.planner.live.val .volFront ≠ 0 ∧
      tuned.planner.live.val .muteFront ≠ 1 ∧
      tuned.tables.volume.getD (tuned.planner.live.val .volFront).toNat (-480) ≠ -480 := by decide +kernel

/-- Two states that differ in volume, mute and zone mode alone. -/
theorem witness_SlotTargetRule :
    let t := tuned.withPlanner { tuned.planner with
      live := ((tuned.planner.live.set 0 0).set 11 1).set 9 1 }
    t.tables = tuned.tables ∧ t.arbiter = tuned.arbiter ∧ t.tracker.scaledBoost = tuned.tracker.scaledBoost ∧
      t.planner.live.val .driverSide = tuned.planner.live.val .driverSide ∧
      (∀ x : AnnClass, t.planner.live.val x.volume = tuned.planner.live.val x.volume) ∧
      t.planner.live ≠ tuned.planner.live := by
  refine ⟨rfl, rfl, rfl, by decide +kernel, fun x => ?_, by decide +kernel⟩
  cases x <;> decide +kernel

/-! ### Ramps, faders, delays -/

/-- A reason that is in no set, and one that is the last, with a delay pending and without. -/
theorem witness_ReasonsMoveFaders :
    (openChan .opened 0).fader.reasons.has .fault = false ∧
      (openChan .closed (-480) |>.addReason .fault).fader.reasons.has .fault = true := by decide

/-- The slowest and the fastest slew, rising from mute and falling to it over the whole range. -/
theorem witness_RampReachesTarget :
    ((1 : Int) ≤ 1 ∧ (-480 : Int) ≤ -480 ∧ (-480 : Int) ≤ 48 ∧ (-480 : Int) < 48) ∧
      ((1 : Int) ≤ 64 ∧ (-480 : Int) ≤ 48 ∧ (-480 : Int) ≤ -480) := by decide

/-- A boundary whose step is due, the tables and the gains in order. -/
theorem witness_RampBoundaryMovesGains :
    Awake sending ∧ (sending.ramp.divider : Int) = sending.tables.global .rampDivider ∧ TablesOk sending ∧
      GainsOk sending := by
  refine ⟨sending_handles.1, by decide +kernel, sending_tables, ?_⟩
  unfold GainsOk PathGains.within
  decide +kernel

/-- A channel with a delay pending behind a fader that closes, beside 23 without. -/
theorem witness_OutputBoundaryClosesAndCounts :
    let s := withChannel 9 { OutChan.reset with
      fader := ⟨-224, .closing, ⟨false, false, false, true, false⟩⟩, pendingDelay := some 960, clipMark := true } sending
    Awake s ∧ ShapeOk s := by
  refine ⟨sending_handles.1, ?_⟩
  refine ⟨?_, ?_, ?_, ?_, ?_, none_waits, fun _ h => by cases h⟩ <;> decide +kernel

/-- The part awake and in shape. -/
theorem witness_DelayGoesInBehindClosedFader : Awake sending ∧ ShapeOk sending := ⟨sending_handles.1, sending_shape⟩

/-! ### Speed -/

/-- Under REPORT and under PULSE. -/
theorem witness_SpeedReportRule :
    Handles sending ∧ Handles counting ∧ counting.tables.global .speedSource = 1 :=
  ⟨sending_handles, sending_handles, by decide +kernel⟩

/-- The last frame of a window, a report that is late, and a counted edge. -/
theorem witness_TrackerBoundaryRule :
    Awake counting ∧ counting.tracker.state = .pulse ∧ counting.tables.global .speedSource = 1 ∧
      sending.tracker.state = .stale :=
  ⟨sending_handles.1, by decide +kernel, by decide +kernel, by decide +kernel⟩

/-- R89's curve, the whole range of speeds, and its highest boost. -/
theorem witness_CurveNeverFalls :
    let points := [(0, 0), (40, 8), (90, 24), (140, 36), (200, 40)]
    pointsRise points = true ∧ 0 ≤ 255 ∧ ∀ p ∈ points, p.2 ≤ 40 := by decide +kernel

/-! ### Announcements -/

/-- Codes 0 and 3 name classes, 4 none. -/
theorem witness_AnnStartTakesFreeSlot :
    Handles sending ∧ Settled sending ∧ [AnnClass.alert, .park, .phone, .nav][(0 : Byte).toNat]? = some .alert ∧
      [AnnClass.alert, .park, .phone, .nav][(3 : Byte).toNat]? = some .nav ∧
      [AnnClass.alert, .park, .phone, .nav][(4 : Byte).toNat]? = none :=
  ⟨sending_handles, sending_settled, rfl, rfl, rfl⟩

/-- Both slots of `twoActive` match their classes and no class waits. -/
theorem twoActive_settled : Settled twoActive :=
  ⟨fun k slot => by cases k <;> cases slot <;> decide +kernel, by decide +kernel⟩

/-- NAV plays in slot 1 while slot 2 drains for PARK, which waits: with one class to set aside, PHONE starts. -/
def oneDraining : State :=
  sending.withArbiter
    ⟨⟨ClassRec.reset, classIn .pending, ClassRec.reset, classIn (.active .slot1)⟩, ⟨.active .nav, .draining⟩⟩

/-- ALERT starts over NAV and PARK, none draining; PHONE starts beside NAV while one slot drains and PARK waits. In both the
next waiting class is strictly above NAV, the lowest. -/
theorem witness_AnnStartPreemptsLowerLevel :
    ((1 : Byte).getLsbD 0 || (1 : Byte).getLsbD 1) = true ∧
      (Handles twoActive ∧ Settled twoActive ∧ twoActive.arbiter.slots.slot1 ≠ .free ∧
        twoActive.arbiter.slots.slot2 ≠ .free ∧ (twoActive.arbiter.classes.get .alert).state = .idle ∧
        (twoActive.tables.classEntry .nav).level < (twoActive.tables.classEntry .alert).level) ∧
      Handles oneDraining ∧ Settled oneDraining ∧ oneDraining.arbiter.slots.slot1 ≠ .free ∧
        oneDraining.arbiter.slots.slot2 = .draining ∧ (oneDraining.arbiter.classes.get .phone).state = .idle ∧
        (oneDraining.arbiter.classes.get .park).state = .pending ∧
        (oneDraining.tables.classEntry .nav).level < (oneDraining.tables.classEntry .phone).level :=
  ⟨rfl, ⟨sending_handles, twoActive_settled, by decide +kernel, by decide +kernel, rfl, by decide +kernel⟩,
    sending_handles, ⟨fun k slot => by cases k <;> cases slot <;> decide +kernel, by decide +kernel⟩, by decide +kernel,
    rfl, rfl, rfl, by decide +kernel⟩

/-- Records that match while a class waits and a slot is FREE. -/
theorem witness_ArbitrationEnds :
    SlotsMatch ⟨⟨classIn .pending, ClassRec.reset, ClassRec.reset, ClassRec.reset⟩, ⟨.free, .draining⟩⟩ :=
  fun k slot => by cases k <;> cases slot <;> decide +kernel

/-- An ACTIVE class ends. -/
theorem witness_AnnEndRule : Handles twoActive := sending_handles

/-- `drained` is settled: ALERT waits, and no slot is FREE. -/
theorem drained_settled : Settled drained :=
  ⟨fun k slot => by cases k <;> cases slot <;> decide +kernel, by decide +kernel⟩

/-- Slot 2 has been handed, and ALERT is the only class that waits. -/
theorem witness_DrainCompletionGrants :
    Awake drained ∧ Settled drained ∧ drained.ramp.handed.get .slot2 = true ∧
      drained.arbiter.slots.get .slot2 = .draining ∧ (drained.arbiter.classes.get .alert).state = .pending ∧
      ∀ j, (drained.arbiter.classes.get j).state = .pending → j = .alert := by
  refine ⟨sending_handles.1, drained_settled, rfl, rfl, rfl, fun j => ?_⟩
  cases j <;> decide +kernel

/-- The boundary, and the comparison alone. -/
theorem witness_TimersExpireClasses :
    Awake twoActive ∧ Settled twoActive ∧ (min 255000 (29999 + 1)) = 30 * 1000 :=
  ⟨sending_handles.1, twoActive_settled, rfl⟩

/-! ### Supply, integrity, the equaliser, the store -/

/-- The part awake. -/
theorem witness_SupplyReadingRule : Awake sending := sending_handles.1

/-- A reading that completes a run from a count of 2. -/
theorem witness_RunAndSettleCompletions :
    Awake (sending.withSupply ⟨.normal, .low, 2, 0, 72⟩) ∧
      (after (.supplyReading 7000) (sending.withSupply ⟨.normal, .low, 2, 0, 72⟩)).supply.state = .low :=
  ⟨sending_handles.1, by decide +kernel⟩

/-- A stored image, and a blank region. -/
theorem witness_UpsetsTouchOneSet :
    Awake sending ∧ ShapeOk sending ∧ sending.store.factoryState ≠ .blank ∧ loading.store.factoryState = .blank :=
  ⟨sending_handles.1, sending_shape, by decide +kernel, by decide +kernel⟩

/-- An upset of one bit, and of a bit of the words with a check bit, in the set at the scan position. -/
theorem witness_ScannerFindsUpsets :
    Awake sending ∧ ShapeOk sending ∧ sending.integrity.scanPos = ((0 : Fin 344) : Nat) ∧
      (sending.coeffSet 0).state = .good ∧ (sending.coeffSet 0).words = (sending.coeffSet 0).placed ∧
      (sending.coeffSet 0).checkFlips = 0 ∧
      (∀ f ∈ [((⟨1, 0, 0, 0, 0⟩ : Words), 0), (⟨0, 0, 0, 0, 1⟩, 1)],
        1 ≤ wordsDistance f.1 ⟨0, 0, 0, 0, 0⟩ + popcount f.2 ∧
          wordsDistance f.1 ⟨0, 0, 0, 0, 0⟩ + popcount f.2 ≤ 2) :=
  ⟨sending_handles.1, sending_shape, rfl, by decide +kernel, by decide +kernel, by decide +kernel, by decide +kernel⟩

/-- The part awake and in shape. -/
theorem witness_EqBoundarySelectsAndChecks : Awake sending ∧ ShapeOk sending := ⟨sending_handles.1, sending_shape⟩

/-- A set waits at a free controller. -/
theorem witness_StoreOperationsBegin :
    Awake suspect33 ∧ QueueOk suspect33 ∧ suspect33.integrity.queue = [33] ∧ suspect33.store.running = none ∧
      suspect33.read = none :=
  ⟨sending_handles.1, suspect33_queue, rfl, rfl, rfl⟩

/-- A read in progress; and one while set 40 and a save wait. -/
theorem witness_RestoreReadCompletes :
    (Awake reading33 ∧ ShapeOk reading33 ∧ ReadOk reading33) ∧
      let s := (reading33.withIntegrity { reading33.integrity with queue := [40] }).withStore
        { reading33.store with waiting := some .close }
      Awake s ∧ ShapeOk s ∧ ReadOk s ∧ s.integrity.queue ≠ [] ∧ s.store.waiting ≠ none := by
  refine ⟨⟨reading33_awake.1, reading33_awake.2, reading33_read⟩, reading33_awake.1, ?_, reading33_read, by decide +kernel, by decide +kernel⟩
  refine ⟨?_, ?_, ?_, ?_, ?_, fun op h => by cases h; trivial, fun _ h => by cases h⟩ <;> decide +kernel

/-- A save that completes while nothing waits, a close, a read, and LOAD. -/
theorem witness_FreedControllerServesReadsFirst :
    (Awake saving ∧ ShapeOk saving ∧ QueueOk saving ∧ ReadOk saving ∧
        ∃ op, saving.store.running = some (.host op) ∧ op ≠ .close) ∧
      (Awake closing ∧ ShapeOk closing ∧ QueueOk closing ∧ ReadOk closing ∧
        closing.store.running = some (.host .close)) ∧
      (Awake reading33 ∧ ShapeOk reading33 ∧ QueueOk reading33 ∧ ReadOk reading33 ∧
        reading33.store.running = some .readSet) ∧
      Awake loading ∧ ShapeOk loading ∧ QueueOk loading ∧ ReadOk loading ∧ loading.store.running = some .load := by
  have shape : ∀ op, HostOpShapeOk op → ShapeOk (sending.withStore { sending.store with running := some (.host op) }) := by
    intro op hop
    obtain ⟨h1, h2, h3, h4, h5, -⟩ := sending_shape
    exact ⟨h1, h2, h3, h4, h5, none_waits, fun _ h => by cases h; exact hop⟩
  refine ⟨⟨sending_handles.1, shape _ trivial, sending_queue, ⟨by decide +kernel, fun _ h => by cases h⟩, _, rfl, by simp⟩,
    ⟨sending_handles.1, shape _ trivial, sending_queue, ⟨by decide +kernel, fun _ h => by cases h⟩, rfl⟩,
    ⟨reading33_awake.1, reading33_awake.2, by apply queue_ok <;> decide +kernel, reading33_read, rfl⟩,
    by unfold Awake LinkOk; decide +kernel, ?_, by apply queue_ok <;> decide +kernel,
    ⟨by decide +kernel, fun _ h => by cases h⟩, rfl⟩
  refine ⟨?_, ?_, ?_, ?_, ?_, none_waits, fun _ h => by cases h⟩ <;> decide +kernel

/-- A free controller and an open, VALID region; a busy one; codes 2 and 3 on the two sides of the range. -/
theorem witness_HostRequestsAccepted :
    Handles sending ∧ ¬(sending.store.waiting ≠ none ∨ ∃ op, sending.store.running = some (.host op)) ∧
      sending.store.closed = false ∧ sending.store.factoryState = .valid ∧ Handles saving ∧
      (saving.store.waiting ≠ none ∨ ∃ op, saving.store.running = some (.host op)) ∧
      (2 : Byte).toNat ≤ 2 ∧ 2 < (3 : Byte).toNat := by
  refine ⟨sending_handles, ?_, rfl, rfl, sending_handles, .inr ⟨_, rfl⟩, by decide, by decide⟩
  rintro (h | ⟨op, h⟩)
  · exact h rfl
  · cases h

/-- A save and a close running, and a save while set 33 waits. -/
theorem witness_HostOperationsComplete :
    (Awake saving ∧ ReadOk saving) ∧ (Awake closing ∧ ReadOk closing) ∧
      let s := suspect33.withStore { suspect33.store with running := some (.host (.saveDealer [])) }
      Awake s ∧ ReadOk s ∧ s.integrity.queue = [33] :=
  ⟨⟨sending_handles.1, by decide +kernel, fun _ h => by cases h⟩, ⟨sending_handles.1, by decide +kernel, fun _ h => by cases h⟩,
    sending_handles.1, ⟨by decide +kernel, fun _ h => by cases h⟩, rfl⟩

/-! ### Tables and patches -/

/-- Table ids 0 and 17 name no table, 1 and 16 do; the last entry of VOLUME is written, and the payload is at its ends. -/
theorem witness_NumberTablesWrittenWhole :
    Handles running ∧ TablesOk running ∧ TableId.ofCode 0 = none ∧ TableId.ofCode 17 = none ∧
      TableId.ofCode 1 = some .volume ∧ TableId.ofCode 16 = some .trebleSets ∧
      (let entries : List (List Byte) := [[0xFF, 0xFF]]
       entries ≠ [] ∧ (∀ e ∈ entries, e.length = TableId.entryBytes .volume) ∧
        entries.length * TableId.entryBytes .volume ≤ 245 ∧
        (0 : Byte).toNat * 256 + (63 : Byte).toNat + entries.length ≤ TableId.entries .volume ∧
        TableId.entries .volume < (0 : Byte).toNat * 256 + (64 : Byte).toNat + entries.length) ∧
      NumbersMeet .trim [-96, 24] ∧ ¬NumbersMeet .trim [-97] ∧ ¬NumbersMeet .trim [25] :=
  ⟨running_handles, running_tables, rfl, rfl, rfl, rfl, by decide, by unfold NumbersMeet Within; decide,
    by unfold NumbersMeet Within; decide, by unfold NumbersMeet Within; decide⟩

/-- The last entry of GLOBALS and of CH_DELAY. -/
theorem witness_GlobalsAndDelayWritesAct :
    Handles running ∧ TablesOk running ∧ ShapeOk running ∧ [((0 : Byte), (0 : Byte))] ≠ [] ∧
      (0 : Byte).toNat * 256 + (16 : Byte).toNat + [((0 : Byte), (0 : Byte))].length ≤ 17 ∧
      (0 : Byte).toNat * 256 + (23 : Byte).toNat + [((0 : Byte), (0 : Byte))].length ≤ 24 :=
  ⟨running_handles, running_tables, running_shape, by decide, by decide, by decide⟩

/-- The last entry of each table of records, its fields at their ends and the ignored bits of CH_ROUTE set; bytes that are no
entry beside them: zone code 3, tone group 4, resume 2, duck 481, in_use 2, boost 49. -/
theorem witness_RecordTablesWritten :
    Handles running ∧ TablesOk running ∧ ShapeOk running ∧
      (23 + [(#v[0x48, 0x4F, 0, 3] : Vector Byte 4)].length ≤ 24 ∧
        List.Forall₂ RouteReads [#v[0x49, 0x4F, 0, 3]] [{ Route.builtin with toneGroup := 3 }] ∧
        (∀ r, ¬RouteReads #v[0x79, 0x4F, 0, 3] r) ∧ ∀ r, ¬RouteReads #v[0x49, 0x4F, 0, 4] r) ∧
      (3 + [(#v[3, 1, 0xE0, 255, 1] : Vector Byte 5)].length ≤ 4 ∧
        List.Forall₂ ClassReads [#v[3, 1, 0xE0, 255, 1]] [⟨3, 480, 255, true⟩] ∧
        (∀ e, ¬ClassReads #v[3, 1, 0xE0, 255, 2] e) ∧ ∀ e, ¬ClassReads #v[3, 1, 0xE1, 255, 1] e) ∧
      7 + [(#v[255, 48, 0] : Vector Byte 3)].length ≤ 8 ∧
        List.Forall₂ CurveReads [#v[255, 48, 0]] [⟨255, 48, false⟩] ∧
        (∀ p, ¬CurveReads #v[255, 48, 2] p) ∧ (∀ p, ¬CurveReads #v[255, 49, 0] p) ∧
        CurveMeets builtinCurve ∧ ¬CurveMeets [] := by
  have route (b : Vector Byte 4) (h : Route.ofBytes b.toList = none) (r : Route) : ¬RouteReads b r :=
    fun hr => by simp [(routeOfBytes_iff b r).mpr hr] at h
  have cls (b : Vector Byte 5) (h : ClassEntry.ofBytes b.toList = none) (e : ClassEntry) : ¬ClassReads b e :=
    fun hr => by simp [(classOfBytes_iff b e).mpr hr] at h
  have curve (b : Vector Byte 3) (h : CurvePoint.ofBytes b.toList = none) (p : CurvePoint) : ¬CurveReads b p :=
    fun hr => by simp [(curveOfBytes_iff b p).mpr hr] at h
  refine ⟨running_handles, running_tables, running_shape, ⟨by decide, .cons ?_ .nil, route _ ?_, route _ ?_⟩,
    ⟨by decide, .cons ?_ .nil, cls _ ?_, cls _ ?_⟩, by decide, .cons ?_ .nil, curve _ ?_, curve _ ?_, builtin_valid.2.2.1, ?_⟩
  · exact (routeOfBytes_iff _ _).mp (by decide +kernel)
  · decide +kernel
  · decide +kernel
  · exact (classOfBytes_iff _ _).mp (by decide +kernel)
  · decide +kernel
  · decide +kernel
  · exact (curveOfBytes_iff _ _).mp (by decide +kernel)
  · decide +kernel
  · decide +kernel
  · simp [CurveMeets]

/-- The last entry of TREBLE_SETS, with stable words and with unstable ones. -/
theorem witness_CoefficientWriteMakesGood :
    Handles sending ∧ ShapeOk sending ∧ QueueOk sending ∧ ReadOk sending ∧
      TableId.ofCode 16 = some .trebleSets ∧ TableId.firstSet .trebleSets = some 244 ∧
      (0 : Byte).toNat * 256 + (99 : Byte).toNat + [passThrough].length ≤ TableId.entries .trebleSets ∧
      [passThrough].length ≤ 16 ∧ passThrough.a2.toInt.natAbs < 4194304 ∧ ¬growing.a2.toInt.natAbs < 4194304 :=
  ⟨sending_handles, sending_shape, sending_queue, sending_read, rfl, rfl, by decide, by decide, by decide, by decide⟩

/-- The last entry of VOLUME, and of FIXED_SETS. -/
theorem witness_TableReadWritesBack :
    Handles running ∧ TablesOk running ∧
      (TableId.ofCode 1 = some .volume ∧ TableId.firstSet .volume = none ∧ 1 ≤ (1 : Byte).toNat ∧
        (1 : Byte).toNat * TableId.entryBytes .volume ≤ 245 ∧
        (0 : Byte).toNat * 256 + (63 : Byte).toNat + (1 : Byte).toNat ≤ TableId.entries .volume) ∧
      TableId.ofCode 14 = some .fixedSets ∧ TableId.firstSet .fixedSets = some 0 ∧ (16 : Byte).toNat * 15 ≤ 247 ∧
      (0 : Byte).toNat * 256 + (128 : Byte).toNat + (16 : Byte).toNat ≤ TableId.entries .fixedSets ∧
      TableId.ofCode 17 = none ∧ TableId.entries .volume < (0 : Byte).toNat * 256 + (64 : Byte).toNat + (1 : Byte).toNat ∧
      247 < (17 : Byte).toNat * TableId.entryBytes .fixedSets :=
  ⟨running_handles, running_tables, by decide, rfl, rfl, by decide, by decide, rfl, by decide, by decide⟩

/-- Table ids 8 and 4 are patchable, 5 is not; entry 23 of CH_TRIM exists, 24 does not. -/
theorem witness_PatchesPutAndDropped :
    Handles running ∧ TablesOk running ∧ PatchTable.ofCode 8 = some .trim ∧ PatchTable.ofCode 4 = some .fade ∧
      PatchTable.ofCode 5 = none ∧ ¬(PatchTable.table .trim).entries ≤ 23 ∧ (PatchTable.table .trim).entries ≤ 24 :=
  ⟨running_handles, running_tables, rfl, rfl, rfl, by decide, by decide⟩

/-! ### The control link, reset, the sample plane -/

/-- An awake part, LOADING and RUNNING. -/
theorem witness_QueryAnswersItems :
    (Awake running ∧ running.link.replies.length < 4) ∧ Awake loading ∧ loading.link.replies.length < 4 :=
  ⟨⟨running_handles.1, by decide⟩, by unfold Awake LinkOk; decide +kernel, by decide⟩

/-- A part that handles requests. -/
theorem witness_CountersHistoryRestart : Handles running := running_handles

/-- A CRC that differs, and the two LENGTH bytes beside the range; a late byte inside a frame and one outside; the bytes of a
COMMIT frame, and of the longest frame, from a hunting assembler. -/
theorem witness_LineErrorsAreCounted :
    (Awake running ∧ (0 : BitVec 16) ≠ crcOf [2, 0x02, 7] ∧ (1 : Byte).toNat < 2 ∧ 250 < (251 : Byte).toNat) ∧
      (Awake (collecting ⟨0xA5, true⟩) ∧ (collecting ⟨0xA5, true⟩).pending = [] ∧
        (collecting ⟨0xA5, true⟩).received = ⟨0xA5, true⟩ :: [] ∧
        (collecting ⟨0xA5, true⟩).link.assembler ≠ .hunting ∧ [(0x02 : Byte), 7].length < (2 : Byte).toNat + 1) ∧
      (let s := running.withReceived ([0xA5, 2, 0x02, 7, 0xB4, 0x79].map fun v => ⟨v, false⟩)
       Awake s ∧ s.pending = [] ∧ s.link.assembler = .hunting ∧ (0xB479 : BitVec 16) = crcOf [2, 0x02, 7]) ∧
      (List.replicate 248 (0 : Byte)).length ≤ 248 :=
  ⟨⟨running_handles.1, by decide +kernel, by decide, by decide⟩,
    ⟨by unfold Awake LinkOk; decide +kernel, rfl, rfl, by decide +kernel, by decide⟩,
    ⟨running_handles.1, rfl, rfl, by decide +kernel⟩, List.length_replicate.le⟩

/-- Four replies waiting, fewer, LOADING; kinds 0 and 16; lengths at and beside the range of TABLE_WRITE. -/
theorem witness_CommonChecksRefuse :
    (Awake crowded ∧ 4 ≤ crowded.link.replies.length) ∧ (Awake loading ∧ loading.link.replies.length < 4 ∧
      loading.startup.state = .loading) ∧ 15 < (16 : Byte).toNat ∧
      ([3, 4, 248, 249].map fun n => 4 ≤ n && n ≤ 248) = [false, true, true, false] :=
  ⟨⟨by unfold Awake LinkOk; decide +kernel, by decide⟩,
    ⟨by unfold Awake LinkOk; decide +kernel, by decide, rfl⟩, by decide, by decide⟩

/-- The reply of a RESTART being sent, and another frame. -/
theorem witness_FrameSentBeginsNext :
    let s := sending.withLink { sending.link with tx := some ⟨0x8F, 1, [0]⟩, restartPending := true }
    Awake s ∧ Awake sending := ⟨by unfold Awake LinkOk; decide +kernel, sending_handles.1⟩

/-- A hold in force, and one that is not; a hold that ends beside another; an image that passes its checks. -/
theorem witness_ResetHoldsAndReleases :
    (cut.hold.supply = true ∧ cut.hold.pin = false ∧ (after .resetPin cut).hold.pin = true ∧
        (after .resetPin cut).hold.supply = true) ∧
      cut.store.factoryState = .valid ∧ TablesFull cut.store.factory.tables ∧ TablesMeet cut.store.factory.tables ∧
      (∀ e ∈ cut.store.factory.sets,
        e.words.a2.toInt.natAbs < 4194304 ∧ (e.words.a1.toInt.natAbs : Int) < 4194304 + e.words.a2.toInt) ∧
      ∀ e ∈ cut.store.factory.sets, e.checkOk = true :=
  ⟨by decide +kernel, by decide +kernel, builtin_valid.1, builtin_valid.2, by decide +kernel, by decide +kernel⟩

/-- LOAD running with a VALID region and with a BLANK one. -/
theorem witness_LoadEndsLoading :
    ∀ s ∈ [loading, loadingValid],
      Awake s ∧ ShapeOk s ∧ TablesOk s ∧ QueueOk s ∧ ReadOk s ∧ s.store.running = some .load := by
  intro s hs
  simp only [List.mem_cons, List.not_mem_nil, or_false] at hs
  rcases hs with rfl | rfl <;>
    exact ⟨by unfold Awake LinkOk; decide +kernel,
      by refine ⟨?_, ?_, ?_, ?_, ?_, none_waits, fun _ h => by cases h⟩ <;> decide +kernel,
      ⟨builtin_valid, fun _ => builtin_valid, none_waits, fun _ h => by cases h⟩,
      by apply queue_ok <;> decide +kernel, ⟨by decide +kernel, fun _ h => by cases h⟩, rfl⟩

/-- The example of 01 section 1.6. -/
theorem witness_SamplePeriodRule : Awake example5 ∧ ShapeOk example5 := by
  refine ⟨running_handles.1, ?_⟩
  refine ⟨?_, ?_, ?_, ?_, ?_, none_waits, fun _ h => by cases h⟩ <;> decide +kernel

/-- The shortest and the longest delay, and a line not yet full. -/
theorem witness_DelayLineRecalls : (0 ≤ 960 ∧ 960 ≤ 960) ∧ ([5, 7] : List Int).length < 960 := by decide

/-- Both ends of the range of gains. -/
theorem witness_GainWordsAreRounded : (-479 : Int) ≤ -479 ∧ (-479 : Int) ≤ 48 ∧ (48 : Int) ≤ 48 := by decide

end Sys2Proof.Tests
end

section
/-! SUPPORT. Rules of the tables: entries replaced, entries cut from bytes, one table replaced among the others. -/

set_option Elab.async false

namespace Sys2Proof

open Sys2Proof.Machine

/-! ## Entries replaced -/

theorem splice_length {α : Type} {old new : List α} {first : Nat} (h : first + new.length ≤ old.length) :
    (splice old first new).length = old.length := by
  simp [splice]; omega

/-- An entry of a table with entries replaced is a new one inside the range and the old one outside it. -/
theorem splice_getD {α : Type} {old new : List α} {first : Nat} (h : first + new.length ≤ old.length) (i : Nat) (d : α) :
    (splice old first new).getD i d =
      if first ≤ i ∧ i < first + new.length then new.getD (i - first) d else old.getD i d := by
  have hf : (old.take first).length = first := by simp; omega
  simp only [splice, List.getD_eq_getElem?_getD]
  split
  · rw [List.append_assoc, List.getElem?_append_right (by omega), hf, List.getElem?_append_left (by omega)]
  · by_cases hi : i < first
    · rw [List.append_assoc, List.getElem?_append_left (by omega), List.getElem?_take_of_lt hi]
    · rw [List.getElem?_append_right (by simp; omega), List.getElem?_drop]
      congr 2
      simp
      omega

theorem mem_splice {α : Type} {old new : List α} {first : Nat} {x : α} (h : x ∈ splice old first new) : x ∈ old ∨ x ∈ new := by
  simp only [splice, List.mem_append] at h
  obtain (h | h) | h := h
  · exact .inl (List.mem_of_mem_take h)
  · exact .inr h
  · exact .inl (List.mem_of_mem_drop h)

/-- One entry replaced. -/
theorem splice_singleton {α : Type} {old : List α} {i : Nat} (h : i < old.length) (v : α) :
    splice old i [v] = old.set i v := by
  simp [splice, List.set_eq_take_append_cons_drop, h]

/-- A table with entries replaced, entry by entry. -/
theorem splice_eq_range {α : Type} {old new : List α} {first n : Nat} (hn : old.length = n) (h : first + new.length ≤ n) (d : α) :
    splice old first new = (List.range n).map fun i =>
      if first ≤ i ∧ i < first + new.length then new.getD (i - first) d else old.getD i d := by
  have hl : first + new.length ≤ old.length := by omega
  refine List.ext_getElem (by simp [splice_length hl, hn]) fun i h1 h2 => ?_
  have := splice_getD hl i d
  rw [List.getD_eq_getElem _ _ h1] at this
  simpa using this

/-! ## Entries cut from bytes -/

theorem chunksGo_cons (n fuel : Nat) (b : Byte) (bs : List Byte) :
    chunksGo n (fuel + 1) (b :: bs) = (b :: bs).take n :: chunksGo n fuel ((b :: bs).drop n) := rfl

theorem chunksGo_flatten {n : Nat} (hn : 0 < n) : ∀ (entries : List (List Byte)) (fuel : Nat),
    (∀ e ∈ entries, e.length = n) → entries.length ≤ fuel → chunksGo n fuel entries.flatten = entries
  | [], 0, _, _ => rfl
  | [], _ + 1, _, _ => rfl
  | e :: rest, 0, _, h => by simp at h
  | e :: rest, fuel + 1, he, h => by
    have hl : e.length = n := he e (by simp)
    obtain ⟨b, bs, rfl⟩ := List.exists_cons_of_length_pos (hl ▸ hn)
    have ih := chunksGo_flatten hn rest fuel (fun x hx => he x (by simp [hx])) (by simpa using h)
    rw [List.flatten_cons, List.cons_append, chunksGo_cons, ← List.cons_append, List.take_append_of_le_length hl.ge,
      List.drop_append_of_le_length hl.ge, ← hl, List.take_length, List.drop_length, hl, List.nil_append, ih]

theorem length_flatten_of_forall {n : Nat} {entries : List (List Byte)} (he : ∀ e ∈ entries, e.length = n) :
    entries.flatten.length = entries.length * n := by
  rw [List.length_flatten, List.map_congr_left he]
  simp

/-- Entries of n bytes laid one after the other are cut apart again. -/
theorem chunks_flatten {n : Nat} (hn : 0 < n) {entries : List (List Byte)} (he : ∀ e ∈ entries, e.length = n) :
    chunks n entries.flatten = entries := by
  refine chunksGo_flatten hn entries _ he ?_
  rw [length_flatten_of_forall he]
  exact Nat.le_mul_of_pos_right _ hn

theorem chunksGo_length {n : Nat} (hn : 0 < n) : ∀ (k fuel : Nat) (l : List Byte), l.length = k * n → k ≤ fuel →
    (chunksGo n fuel l).length = k
  | 0, fuel, l, hl, _ => by
    obtain rfl : l = [] := by simpa using hl
    cases fuel <;> rfl
  | k + 1, 0, _, _, h => by simp at h
  | k + 1, fuel + 1, [], hl, _ => by
    have : 0 < (k + 1) * n := Nat.mul_pos k.succ_pos hn
    simp at hl; omega
  | k + 1, fuel + 1, b :: bs, hl, h => by
    rw [chunksGo_cons, List.length_cons, chunksGo_length hn k fuel _ ?_ (by omega)]
    rw [List.length_drop, hl, Nat.succ_mul, Nat.add_sub_cancel]

theorem chunks_length {n : Nat} (hn : 0 < n) {l : List Byte} (h : l.length % n = 0) :
    (chunks n l).length = l.length / n :=
  chunksGo_length hn _ _ _ (Nat.div_mul_cancel (Nat.dvd_of_mod_eq_zero h)).symm (Nat.div_le_self _ _)

theorem entryBytes_pos (id : TableId) : 0 < id.entryBytes := by cases id <;> decide

/-! ## One table of numbers among the tables -/

theorem nums_putNums_same (t : Tables) {id : TableId} (hid : id ∈ numberTables) (l : List Int) :
    (t.putNums id l).nums id = l := by
  cases id
  case speedCurve | classes | route | fixedSets | bassSets | trebleSets => exact absurd hid (by decide)
  all_goals rfl

theorem nums_putNums_other (t : Tables) {id x : TableId} (hx : x ≠ id) (l : List Int) :
    (t.putNums id l).nums x = t.nums x := by
  cases id <;> cases x <;> simp [Tables.nums, Tables.putNums] at hx ⊢

theorem putNums_records (t : Tables) (id : TableId) (l : List Int) :
    (t.putNums id l).speedCurve = t.speedCurve ∧ (t.putNums id l).classes = t.classes ∧
      (t.putNums id l).route = t.route := by
  cases id <;> exact ⟨rfl, rfl, rfl⟩

/-- A valid table of numbers may take the place of another. -/
theorem TablesValid.putNums {t : Tables} (ht : TablesValid t) {id : TableId} (hid : id ∈ numberTables) {l : List Int}
    (hl : l.length = id.entries) (hn : NumbersMeet id l) : TablesValid (t.putNums id l) := by
  obtain ⟨⟨hlen, hlens⟩, hmeet, hmeets⟩ := ht
  obtain ⟨hcurve, hclasses, hroute⟩ := putNums_records t id l
  refine ⟨⟨fun x hx => ?_, by rwa [hcurve, hclasses, hroute]⟩, fun x hx => ?_, by rwa [hcurve, hclasses, hroute]⟩ <;>
    by_cases h : x = id
  · rw [h, nums_putNums_same t hid, hl]
  · rw [nums_putNums_other t h, hlen x hx]
  · rw [h, nums_putNums_same t hid]; exact hn
  · rw [nums_putNums_other t h]; exact hmeet x hx

theorem builtin_tables_valid : TablesValid Tables.builtin := by
  have hfull : TablesFull Tables.builtin := by
    refine ⟨?_, by decide +kernel, by decide +kernel, by decide +kernel⟩
    decide +kernel
  refine ⟨hfull, ((imageOk_iff (f := ⟨Tables.builtin, []⟩) hfull).mp ?_).1⟩
  decide +kernel

end Sys2Proof
end

section
/-! SUPPORT. Frames of the commands: which blocks each event may touch, once for each command. -/

set_option Elab.async false

namespace Sys2Proof

open Sys2Proof.Machine

/-! ## LOAD -/

theorem applyPatch_only (s : State) (r : PatchRec) :
    Only [.tables, .ramp, .tracker, .output, .link, .startup] s (applyPatch s r) :=
  Only.ite (fun _ => (writePatch_only _ _ _ s).mono (by decide)) fun _ => (withStartup_only s _).mono (by decide)

theorem applyPatches_only : ∀ (l : List PatchRec) (s : State),
    Only [.tables, .ramp, .tracker, .output, .link, .startup] s (l.foldl applyPatch s)
  | [], s => .refl _ s
  | r :: l, s => (applyPatch_only s r).trans (applyPatches_only l _)

theorem placePatches_only (s : State) :
    Only [.tables, .ramp, .tracker, .output, .link, .startup, .patches] s (placePatches s) := by
  have h := fun l => (withPatches_only s l).comp (withStartup_only _ ⟨s.startup.state, 0⟩)
    (n := [.tables, .ramp, .tracker, .output, .link, .startup, .patches])
  unfold placePatches
  dsimp only
  split
  · exact (h _).comp (applyPatches_only _ _)
  · exact h _

theorem placeScene_only (s : State) : Only [.planner, .tracker] s (placeScene s) :=
  Only.ite (fun _ => (withPlanner_only s _).mono (by decide)) fun _ => (withPlanner_only s _).comp (recompute_only _)

theorem endLoading_only (s : State) : Only [.startup, .output, .link] s (endLoading s) :=
  Only.ite (fun _ => ((withStartup_only s _).comp (mapOut_only _ _) (n := [.startup, .output])).comp (post_only _ _))
    fun _ => (withStartup_only s _).comp (post_only _ _)

theorem placeNums_only (f : FactoryImage) (s : State) (id : TableId) :
    Only [.tables, .ramp, .tracker, .output, .link] s (placeNums f s id) := acceptNums_only _ _ _ _ s

theorem placeAllNums_only (f : FactoryImage) : ∀ (l : List TableId) (s : State),
    Only [.tables, .ramp, .tracker, .output, .link] s (l.foldl (placeNums f) s)
  | [], s => .refl _ s
  | id :: l, s => (placeNums_only f s id).trans (placeAllNums_only f l _)

/-- What the placement of the FACTORY region may touch. -/
theorem placeFactory_only (f : FactoryImage) (s : State) :
    Only [.tables, .ramp, .tracker, .output, .arbiter, .integrity, .read, .link] s (placeFactory f s) := by
  refine Only.comp (l := [.tables, .ramp, .tracker, .output, .arbiter, .link]) ?_ (writeSets_only _ _ _ _)
  refine Only.comp (l := [.tables, .ramp, .tracker, .output, .arbiter, .link]) ?_ (placeAllNums_only f _ _)
  refine Only.comp (l := [.tables, .ramp, .tracker, .output, .arbiter, .link]) ?_ (acceptRoute_only _ _)
  refine Only.comp (l := [.tables, .ramp, .tracker, .output, .link]) ?_ (acceptClasses_only _ _)
  exact (placeAllNums_only f _ s).comp (acceptCurve_only _ _)

theorem completeLoad_only (s : State) :
    Only [.tables, .planner, .ramp, .output, .tracker, .arbiter, .integrity, .read, .store, .patches, .startup, .link] s
      (completeLoad s) := by
  refine Only.ite (fun _ => ?_) fun _ => .refl _ s
  have hfreed := withStore_only s { s.store with running := none }
  refine Only.comp (l := [.tables, .planner, .ramp, .output, .tracker, .arbiter, .integrity, .read, .store, .patches,
    .startup, .link]) ?_ (grantNext_only _)
  refine Only.comp (l := [.tables, .planner, .ramp, .output, .tracker, .arbiter, .integrity, .read, .store, .patches,
    .startup, .link]) ?_ (endLoading_only _)
  refine Only.comp (l := [.tables, .ramp, .output, .tracker, .arbiter, .integrity, .read, .store, .patches, .startup,
    .link]) ?_ (placeScene_only _)
  refine Only.comp (l := [.tables, .ramp, .output, .tracker, .arbiter, .integrity, .read, .store, .link]) ?_
    (placePatches_only _)
  exact Only.ite (fun _ => hfreed.comp (placeFactory_only _ _)) fun _ => hfreed.mono (by decide)

/-! ## Every command -/

theorem frameSent_only (s : State) : Only [.store, .read, .link, .audio, .hold, .output] s (frameSent s) := by
  unfold frameSent
  split
  · exact .refl _ s
  · exact Only.ite (fun _ => (enterReset_only _ s).mono (by decide)) fun _ =>
      (withLink_only s _).comp (beginNext_only _)

theorem dispatch_only {l : List Block} {kind tag : Byte} {handle : State → Handled} {s : State}
    (hh : Only l s (handle s).state) (hl : Block.link ∈ l := by decide) : Only l s (dispatch kind tag handle s) := by
  have hlink : ∀ b ∈ [Block.link], b ∈ l := fun b hb => List.mem_singleton.mp hb ▸ hl
  refine Only.ite (fun _ => (withLink_only s _).mono hlink) fun _ => ?_
  exact hh.trans ((withLink_only _ _).mono hlink)

/-- A request touches the link and what its owner touches. -/
theorem taken_only {l : List Block} {kind tag : Byte} {lengthOk ready : Bool} {handle : State → Handled} {s : State}
    (hh : ∀ u, Only l u (handle u).state) (hl : Block.link ∈ l := by decide) :
    Only l s (taken kind tag lengthOk ready handle s) := by
  have hf : Only l s (frameTaken s) := (frameTaken_only s).mono fun b hb => List.mem_singleton.mp hb ▸ hl
  refine hf.trans (dispatch_only ?_ hl)
  unfold commonChecks
  split
  · exact .refl l _
  · split
    · exact .refl l _
    · exact hh _

/-- The blocks that the effect of a command may touch. -/
def touches : Instr → List Block
  | .set _ _ | .commit _ _ => [.planner, .link]
  | .query _ _ | .tableRead _ _ | .restart _ _ | .badKind _ _ _ | .crcError _ _ | .frameLengthInvalid _ | .linkGap _ =>
    [.link]
  | .speed _ _ | .speedTrackerBoundary | .staleTimeout => [.tracker, .link]
  | .annStart _ _ | .annEnd _ _ | .arbiterBoundary | .expiry => [.arbiter, .link]
  | .tableWrite _ _ => [.tables, .ramp, .tracker, .output, .arbiter, .integrity, .read, .link]
  | .save _ _ => [.store, .integrity, .link]
  | .closeFactory _ _ => [.store, .link]
  | .patchPut _ _ => [.tables, .ramp, .tracker, .output, .patches, .link]
  | .patchDrop _ _ => [.patches, .link]
  | .counters _ _ | .scannerCheck => [.integrity, .output, .link]
  | .clearHistory _ _ => [.record, .link]
  | .commitTaken => [.planner, .tracker]
  | .plannerBoundary => [.planner, .tracker, .mixer]
  | .rampBoundary | .rampStep => [.ramp, .output]
  | .drainCompletion _ => [.ramp, .arbiter, .link]
  | .outputStageStep => [.lines, .output, .link]
  | .applyDelay => [.lines, .output]
  | .eqBoundary => [.eq, .integrity, .output, .link]
  | .upset _ _ _ => [.integrity]
  | .readSetBegin => [.integrity, .read, .store, .link]
  | .readSetComplete _ => [.integrity, .output, .link, .read, .store]
  | .windowEnd | .pulseCounted _ => [.tracker]
  | .supplyReading _ | .runComplete _ | .settleComplete _ => [.supply, .output, .link]
  | .loadComplete =>
    [.tables, .planner, .ramp, .output, .tracker, .arbiter, .integrity, .read, .store, .patches, .startup, .link]
  | .hostOperationBegin => [.store]
  | .saveComplete _ | .closeComplete _ => [.store, .integrity, .read, .link]
  | .samplePeriod _ => [.eq, .lines, .output, .audio]
  | .frameSent | .supplyCut | .resetPin | .resetRelease _ | .powerLoss | .storedCopyDamaged _ _ => []

/-- The effect of a command touches no other block. -/
theorem effect_only (c : Instr) (s : State) : Only (touches c) s (effect c s) := by
  cases c
  all_goals dsimp only [touches]
  case set p => exact taken_only fun u => (handleSet_only p u).mono (by decide)
  case commit => exact taken_only fun u => (handleCommit_only u).mono (by decide)
  case query p => exact taken_only fun u => by rw [handleQuery_only]; exact .refl _ u
  case speed p => exact taken_only fun u => handleSpeed_only p u
  case annStart p => exact taken_only fun u => handleAnnStart_only p u
  case annEnd p => exact taken_only fun u => handleAnnEnd_only p u
  case tableWrite p => exact taken_only fun u => handleTableWrite_only p u
  case tableRead p => exact taken_only fun u => by rw [handleTableRead_only]; exact .refl _ u
  case save p => exact taken_only fun u => (handleSave_only p u).mono (by decide)
  case closeFactory => exact taken_only fun u => (handleClose_only u).mono (by decide)
  case patchPut p => exact taken_only fun u => handlePatchPut_only p u
  case patchDrop p => exact taken_only fun u => (handlePatchDrop_only p u).mono (by decide)
  case counters p => exact taken_only fun u => handleCounters_only p u
  case clearHistory => exact taken_only fun u => (handleClearHistory_only u).mono (by decide)
  case restart => exact taken_only fun u => handleRestart_only u
  case badKind =>
    exact Only.ite (fun _ => .refl _ s) fun _ => (frameTaken_only s).trans (dispatch_only (.refl _ _))
  case crcError => exact Only.ite (fun _ => .refl _ s) fun _ => withLink_only s _
  case frameLengthInvalid => exact Only.ite (fun _ => withLink_only s _) fun _ => .refl _ s
  case linkGap => exact withLink_only s _
  case commitTaken => exact commitIfMarked_only s
  case plannerBoundary => exact (commitIfMarked_only s).comp (computePlan_only _)
  case rampBoundary => exact rampUnitBoundary_only s
  case rampStep => exact Only.ite (fun _ => rampUnitBoundary_only s) fun _ => .refl _ s
  case drainCompletion k => exact takeDrain_only k s
  case outputStageStep => exact outputBoundary_only s
  case applyDelay => exact applyDelays_only s
  case eqBoundary => exact eqBoundary_only s
  case scannerCheck => exact scan_only s
  case upset => exact modifySet_only _ _ s
  case readSetBegin => exact Only.ite (fun _ => beginRead_only s) fun _ => .refl _ s
  case readSetComplete ok => exact completeRead_only ok s
  case arbiterBoundary => exact (withArbiter_only s _).comp (expire_only _)
  case expiry => exact expire_only s
  case speedTrackerBoundary => exact trackerBoundary_only s
  case staleTimeout => exact goStale_only s
  case windowEnd => exact Only.ite (fun _ => endWindow_only s) fun _ => .refl _ s
  case pulseCounted => exact Only.ite (fun _ => withTracker_only s _) fun _ => .refl _ s
  case supplyReading => exact takeReading_only _ s
  case runComplete => exact Only.ite (fun _ => takeReading_only _ s) fun _ => .refl _ s
  case settleComplete => exact Only.ite (fun _ => takeReading_only _ s) fun _ => .refl _ s
  case loadComplete => exact completeLoad_only s
  case hostOperationBegin => exact Only.ite (fun _ => beginHost_only s) fun _ => .refl _ s
  case saveComplete ok => exact completeSave_only ok s
  case closeComplete ok => exact completeClose_only ok s
  case samplePeriod p => exact samplePeriod_only p s
  all_goals exact .refl _ s

/-! ## What the rows of reset answer -/

theorem exec_frameSent (s : State) : exec .frameSent s = .next (if s.held then s else frameSent s) := rfl

theorem exec_supplyCut (s : State) : exec .supplyCut s = .next (enterReset .supplyCut s) := rfl

theorem exec_resetPin (s : State) : exec .resetPin s = .next (enterReset .resetPin s) := rfl

theorem exec_powerLoss (s : State) : exec .powerLoss s = .next (losePower s) := rfl

theorem exec_resetRelease (e : Hold) (s : State) :
    exec (.resetRelease e) s = .next (if s.hold.has e then endHold e s else s) := rfl

theorem exec_storedCopyDamaged (i : Fin 344) (f : Words) (s : State) :
    exec (.storedCopyDamaged i f) s = .next (if s.store.factoryState = .blank then s else damageStored i f s) := rfl

theorem losePower_only (s : State) : Only [.store, .read, .link, .audio, .hold] s (losePower s) :=
  (enterReset_only .supplyCut s).comp (withHold_only _ _)

/-! ## The queue of commands and the waiting bytes (R177) -/

theorem Only.queues {l : List Block} {s t : State} (h : Only l s t) (hp : Block.pending ∉ l := by decide)
    (hr : Block.received ∉ l := by decide) : t.pending = s.pending ∧ t.received = s.received :=
  ⟨h.pending hp, h.received hr⟩

theorem endHold_queues (e : Hold) (s : State) : (endHold e s).pending = s.pending ∧ (endHold e s).received = s.received := by
  unfold endHold
  dsimp only
  split <;> exact ⟨rfl, rfl⟩

theorem effect_queues (c : Instr) (s : State) :
    (effect c s).pending = s.pending ∧ (effect c s).received = s.received := by
  have h := effect_only c s
  cases c
  all_goals dsimp only [touches] at h
  all_goals exact h.queues

/-- Settles O2: every command but the rows of reset is one event; those are looked at one by one. -/
theorem everyCommandAnswersNext : Obligations.EveryCommandAnswersNext := by
  refine ⟨fun c s => ?_, fun c s hheld hcut hpin hpower hrelease hdamage => ?_⟩ <;> cases ho : outside c
  · refine ⟨_, exec_event ho s, ?_⟩
    split
    · exact ⟨rfl, rfl⟩
    · obtain ⟨hp, hr⟩ := effect_queues c s
      obtain ⟨hp', hr'⟩ := (pump_only (effect c s)).queues
      exact ⟨hp'.trans hp, hr'.trans hr⟩
  · cases c
    case frameSent =>
      refine ⟨_, exec_frameSent s, ?_⟩
      split
      · exact ⟨rfl, rfl⟩
      · exact (frameSent_only s).queues
    case supplyCut => exact ⟨_, exec_supplyCut s, (enterReset_only _ s).queues⟩
    case resetPin => exact ⟨_, exec_resetPin s, (enterReset_only _ s).queues⟩
    case powerLoss => exact ⟨_, exec_powerLoss s, (losePower_only s).queues⟩
    case resetRelease e =>
      refine ⟨_, exec_resetRelease e s, ?_⟩
      split
      · exact endHold_queues e s
      · exact ⟨rfl, rfl⟩
    case storedCopyDamaged i f =>
      refine ⟨_, exec_storedCopyDamaged i f s, ?_⟩
      split <;> exact ⟨rfl, rfl⟩
    all_goals cases ho
  · rw [exec_event ho, event, if_pos hheld]
  · cases c
    case frameSent => rw [exec_frameSent, if_pos hheld]
    case supplyCut => exact absurd rfl hcut
    case resetPin => exact absurd rfl hpin
    case powerLoss => exact absurd rfl hpower
    case resetRelease e => exact absurd rfl (hrelease e)
    case storedCopyDamaged i f => exact absurd rfl (hdamage i f)
    all_goals cases ho

end Sys2Proof
end

section
/-! SUPPORT. The working tables stay valid on every write, patch, load and save path. -/

set_option Elab.async false

namespace Sys2Proof

open Sys2Proof.Machine

/-- Entries are all read, or none is. -/
theorem mapM_eq_some_iff {α β : Type} {f : α → Option β} : ∀ {l : List α} {m : List β},
    l.mapM f = some m ↔ List.Forall₂ (fun a b => f a = some b) l m
  | [], m => by simp [eq_comm]
  | a :: l, m => by
    simp only [List.mapM_cons, Option.bind_eq_bind, Option.bind_eq_some_iff, mapM_eq_some_iff, Option.pure_def,
      Option.some.injEq, List.forall₂_cons_left_iff]
    exact ⟨fun ⟨b, hb, m', hm', e⟩ => ⟨b, m', hb, hm', e.symm⟩, fun ⟨b, m', hb, hm', e⟩ => ⟨b, hb, m', hm', e.symm⟩⟩

theorem mem_of_forall₂ {α β : Type} {R : α → β → Prop} {l : List α} {m : List β} (h : List.Forall₂ R l m) {b : β}
    (hb : b ∈ m) : ∃ a ∈ l, R a b := by
  induction h with
  | nil => cases hb
  | cons hr _ ih =>
    obtain rfl | hb := List.mem_cons.mp hb
    · exact ⟨_, by simp, hr⟩
    · obtain ⟨a, ha, hab⟩ := ih hb
      exact ⟨a, by simp [ha], hab⟩

/-! ## The fields of an entry that is read lie in their ranges (R9, R88, R111) -/

theorem curvePoint_ofBytes_inRange {b : List Byte} {p : CurvePoint} (h : CurvePoint.ofBytes b = some p) :
    p.speed ≤ 255 ∧ p.boost ≤ 48 := by
  unfold CurvePoint.ofBytes at h
  split at h
  · obtain ⟨u, -, h⟩ := Option.bind_eq_some_iff.mp h
    split at h
    · cases h
    · cases h
      exact ⟨Nat.le_of_lt_succ (BitVec.isLt _), not_lt.mp ‹_›⟩
  · cases h

theorem classEntry_ofBytes_inRange {b : List Byte} {e : ClassEntry} (h : ClassEntry.ofBytes b = some e) :
    e.level ≤ 3 ∧ e.duck ≤ 480 ∧ e.maxDuration ≤ 255 := by
  unfold ClassEntry.ofBytes at h
  split at h
  · obtain ⟨r, -, h⟩ := Option.bind_eq_some_iff.mp h
    split at h
    · cases h
    · rename_i hr
      cases h
      exact ⟨not_lt.mp fun hl => hr (.inl hl), not_lt.mp fun hd => hr (.inr hd), Nat.le_of_lt_succ (BitVec.isLt _)⟩
  · cases h

theorem route_ofBytes_inRange {b : List Byte} {r : Route} (h : Route.ofBytes b = some r) : r.toneGroup ≤ 3 := by
  unfold Route.ofBytes at h
  split at h
  · simp only [Option.bind_eq_bind, Option.bind_eq_some_iff] at h
    obtain ⟨zone, -, leg, -, side, -, row, -, h⟩ := h
    split at h
    · cases h
    · rename_i hr
      cases h
      exact not_lt.mp fun ht => hr (.inr ht)
  · cases h

/-! ## Records replaced -/

theorem TablesValid.withCurve {t : Tables} (ht : TablesValid t) {l : List CurvePoint} (hl : l.length = 8)
    (hm : CurveMeets l) : TablesValid { t with speedCurve := l } := by
  obtain ⟨⟨hlen, -, hcl, hrl⟩, hmeet, -, hc, hr⟩ := ht
  exact ⟨⟨hlen, hl, hcl, hrl⟩, hmeet, hm, hc, hr⟩

theorem TablesValid.withClasses {t : Tables} (ht : TablesValid t) {l : List ClassEntry} (hl : l.length = 4)
    (hm : ∀ e ∈ l, e.level ≤ 3 ∧ e.duck ≤ 480 ∧ e.maxDuration ≤ 255) : TablesValid { t with classes := l } := by
  obtain ⟨⟨hlen, hsl, -, hrl⟩, hmeet, hs, -, hr⟩ := ht
  exact ⟨⟨hlen, hsl, hl, hrl⟩, hmeet, hs, hm, hr⟩

theorem TablesValid.withRoute {t : Tables} (ht : TablesValid t) {l : List Route} (hl : l.length = 24)
    (hm : ∀ r ∈ l, r.toneGroup ≤ 3) : TablesValid { t with route := l } := by
  obtain ⟨⟨hlen, hsl, hcl, -⟩, hmeet, hs, hc, -⟩ := ht
  exact ⟨⟨hlen, hsl, hcl, hl⟩, hmeet, hs, hc, hm⟩

/-! ## What accepted writes leave in the tables -/

theorem acceptNums_tables (id : TableId) (first k : Nat) (l : List Int) (s : State) :
    (acceptNums id first k l s).tables = s.tables.putNums id l := by
  cases id
  case globals =>
    refine (trackerActs_only _ _).tables.trans ?_
    split <;> rfl
  all_goals rfl

theorem acceptCurve_tables (l : List CurvePoint) (s : State) :
    (acceptCurve l s).tables = { s.tables with speedCurve := l } := rfl

theorem acceptClasses_tables (l : List ClassEntry) (s : State) :
    (acceptClasses l s).tables = { s.tables with classes := l } := (arbitrate_only _).tables

theorem acceptRoute_tables (l : List Route) (s : State) : (acceptRoute l s).tables = { s.tables with route := l } := rfl

theorem accepted_tables_valid {ok : Bool} {x : Status} {s t : State} (hs : TablesValid s.tables)
    (ht : ok = true → TablesValid t.tables) : TablesValid (accepted ok x s t).state.tables := by
  unfold accepted
  split
  · exact ht ‹_›
  · exact hs

theorem acceptNums_tables_valid {id : TableId} {first k : Nat} {l : List Int} {s : State} (hs : TablesValid s.tables)
    (hid : id ∈ numberTables) (hl : l.length = id.entries) (hok : numsOk id l = true) :
    TablesValid (acceptNums id first k l s).tables := by
  rw [acceptNums_tables]
  exact hs.putNums hid hl ((numsOk_iff id hl).mp hok)

/-- TABLE_WRITE of entries inside the table leaves valid tables (R187). -/
theorem writeEntries_tables_valid {id : TableId} {first : Nat} {entries : List (List Byte)} {s : State}
    (hs : TablesValid s.tables) (hin : first + entries.length ≤ id.entries) :
    TablesValid (writeEntries id first entries s).state.tables := by
  have hfull := hs.1
  obtain ⟨hlen, hcurveLen, hclassLen, hrouteLen⟩ := hs.1
  obtain ⟨-, ⟨hcurve, -⟩, hclasses, hroutes⟩ := hs.2
  have hsets : ∀ i l, (writeSets true i l s).tables = s.tables := fun i l => (writeSets_only true i l s).tables
  have hnums : ∀ x, x ∈ numberTables → first + entries.length ≤ x.entries → TablesValid
      (accepted (numsOk x (splice (s.tables.nums x) first (entries.map numOfBytes))) .tableInvalid s (acceptNums x first
        entries.length (splice (s.tables.nums x) first (entries.map numOfBytes)) s)).state.tables := by
    intro x hx hin
    refine accepted_tables_valid hs fun hok => acceptNums_tables_valid hs hx ?_ hok
    rw [splice_length (by rw [hlen x hx, List.length_map]; exact hin), hlen x hx]
  cases id <;> dsimp only [writeEntries]
  case speedCurve =>
    split
    · exact hs
    · rename_i new hnew
      have hread := mapM_eq_some_iff.mp hnew
      refine accepted_tables_valid hs fun hok => ?_
      refine hs.withCurve ?_ ((curveOk_iff _).mp (Bool.and_eq_true_iff.mpr ⟨?_, hok⟩))
      · rw [splice_length (by rw [hcurveLen, ← hread.length_eq]; exact hin), hcurveLen]
      · rw [List.all_eq_true]
        intro p hp
        suffices p.speed ≤ 255 ∧ p.boost ≤ 48 by simpa [CurvePoint.inRange] using this
        obtain hp | hp := mem_splice hp
        · exact hcurve p hp
        · obtain ⟨b, -, hb⟩ := mem_of_forall₂ hread hp
          exact curvePoint_ofBytes_inRange hb
  case classes =>
    split
    · exact hs
    · rename_i new hnew
      have hread := mapM_eq_some_iff.mp hnew
      rw [Handled.done, acceptClasses_tables]
      refine hs.withClasses ?_ fun e he => ?_
      · rw [splice_length (by rw [hclassLen, ← hread.length_eq]; exact hin), hclassLen]
      · obtain he | he := mem_splice he
        · exact hclasses e he
        · obtain ⟨b, -, hb⟩ := mem_of_forall₂ hread he
          exact classEntry_ofBytes_inRange hb
  case route =>
    split
    · exact hs
    · rename_i new hnew
      have hread := mapM_eq_some_iff.mp hnew
      rw [Handled.done, acceptRoute_tables]
      refine hs.withRoute ?_ fun r hr => ?_
      · rw [splice_length (by rw [hrouteLen, ← hread.length_eq]; exact hin), hrouteLen]
      · obtain hr | hr := mem_splice hr
        · exact hroutes r hr
        · obtain ⟨b, -, hb⟩ := mem_of_forall₂ hread hr
          exact route_ofBytes_inRange hb
  case fixedSets | bassSets | trebleSets => exact accepted_tables_valid hs fun _ => by rw [hsets]; exact hs
  all_goals exact hnums _ (by decide) hin

theorem handleTableWrite_tables_valid {p : List Byte} {s : State} (hs : TablesValid s.tables) :
    TablesValid (handleTableWrite p s).state.tables := by
  unfold handleTableWrite
  split
  · split
    · exact hs
    · rename_i id _
      split
      · exact hs
      · split
        · exact hs
        · rename_i hlen hrange
          refine writeEntries_tables_valid hs ?_
          rw [chunks_length (entryBytes_pos id) (not_not.mp fun h => hlen (.inr h))]
          exact not_lt.mp hrange
  · exact hs

theorem patchTable_mem (t : PatchTable) : t.table ∈ numberTables := by cases t <;> decide

/-- A patch that its table admits leaves valid tables (R170, R173). -/
theorem writePatch_tables_valid {t : PatchTable} {i : Nat} {v : Int} {s : State} (hs : TablesValid s.tables)
    (h : patchOk t i v s = true) : TablesValid (writePatch t i v s).tables := by
  obtain ⟨hi, hok⟩ := Bool.and_eq_true_iff.mp h
  refine acceptNums_tables_valid hs (patchTable_mem t) ?_ hok
  have hlen := hs.1.1 _ (patchTable_mem t)
  rw [patchedTable, splice_length (by rw [hlen]; exact of_decide_eq_true hi), hlen]

theorem handlePatchPut_tables_valid {p : List Byte} {s : State} (hs : TablesValid s.tables) :
    TablesValid (handlePatchPut p s).state.tables := by
  unfold handlePatchPut
  split
  · split
    · exact hs
    · dsimp only
      split
      · exact hs
      · split
        · exact hs
        · split
          · exact hs
          · exact writePatch_tables_valid hs (by simpa using ‹¬(!patchOk _ _ _ s) = true›)
  · exact hs

/-! ## LOAD -/

theorem placeNums_tables (f : FactoryImage) (s : State) (id : TableId) :
    (placeNums f s id).tables = s.tables.putNums id (f.tables.nums id) := acceptNums_tables _ _ _ _ _

/-- The tables once LOAD has placed the region's copy are that copy (R173). -/
theorem placeFactory_tables (f : FactoryImage) (s : State) : (placeFactory f s).tables = f.tables := by
  unfold placeFactory
  rw [(writeSets_only _ _ _ _).tables]
  simp only [List.foldl_cons, List.foldl_nil, placeNums_tables, acceptRoute_tables, acceptClasses_tables,
    acceptCurve_tables, Tables.putNums, Tables.nums]

theorem applyPatches_tables_valid : ∀ (l : List PatchRec) {s : State}, TablesValid s.tables →
    TablesValid (l.foldl applyPatch s).tables
  | [], _, hs => hs
  | r :: l, s, hs => by
    refine applyPatches_tables_valid l ?_
    unfold applyPatch
    split
    · exact writePatch_tables_valid hs ‹_›
    · exact hs

theorem placePatches_tables_valid {s : State} (hs : TablesValid s.tables) : TablesValid (placePatches s).tables := by
  unfold placePatches
  dsimp only
  split
  · exact applyPatches_tables_valid _ hs
  · exact hs

/-! ## The store (R162) -/

/-- What TablesOk says of the store. -/
structure StoreTablesOk (st : Store) : Prop where
  contents : st.factoryState = .valid → TablesValid st.factory.tables
  waiting : ∀ op, st.waiting = some op → HostOpTablesOk op
  running : ∀ op, st.running = some (.host op) → HostOpTablesOk op

theorem tablesOk_iff (s : State) : TablesOk s ↔ TablesValid s.tables ∧ StoreTablesOk s.store :=
  ⟨fun ⟨ht, hc, hw, hr⟩ => ⟨ht, hc, hw, hr⟩, fun ⟨ht, hc, hw, hr⟩ => ⟨ht, hc, hw, hr⟩⟩

theorem TablesOk.store {s : State} (h : TablesOk s) : StoreTablesOk s.store := ((tablesOk_iff s).mp h).2

theorem TablesOk.of_frame {l : List Block} {s t : State} (hs : TablesOk s) (h : Only l s t)
    (ht : Block.tables ∉ l := by decide) (hst : Block.store ∉ l := by decide) : TablesOk t := by
  rw [tablesOk_iff, h.tables ht, h.store hst]
  exact ⟨hs.1, hs.store⟩

/-- An event that leaves the store keeps the invariant if it leaves valid tables. -/
theorem TablesOk.of_tables {l : List Block} {s t : State} (hs : TablesOk s) (h : Only l s t)
    (ht : TablesValid t.tables) (hst : Block.store ∉ l := by decide) : TablesOk t := by
  rw [tablesOk_iff, h.store hst]
  exact ⟨ht, hs.store⟩

/-- An event that leaves the tables keeps the invariant if it keeps it of the store. -/
theorem TablesOk.of_store {l : List Block} {s t : State} (hs : TablesOk s) (h : Only l s t)
    (hst : StoreTablesOk t.store) (ht : Block.tables ∉ l := by decide) : TablesOk t := by
  rw [tablesOk_iff, h.tables ht]
  exact ⟨hs.1, hst⟩

theorem StoreTablesOk.run {st : Store} (h : StoreTablesOk st) (op : Option StoreOp)
    (hop : ∀ x, op = some (.host x) → HostOpTablesOk x) : StoreTablesOk { st with running := op } :=
  ⟨h.contents, h.waiting, hop⟩

theorem StoreTablesOk.idle {st : Store} (h : StoreTablesOk st) : StoreTablesOk { st with running := none } :=
  h.run none nofun

theorem StoreTablesOk.interrupted {st : Store} (h : StoreTablesOk st) : StoreTablesOk st.interrupted := by
  have gone : ∀ fs, (fs = .valid → st.factoryState = .valid) → ∀ ds ss,
      StoreTablesOk { st with running := none, waiting := none, factoryState := fs, dealerState := ds, startState := ss } :=
    fun fs hfs ds ss => ⟨fun hv => h.contents (hfs hv), nofun, nofun⟩
  unfold Store.interrupted
  dsimp only
  split
  · exact gone .corrupt nofun _ _
  all_goals exact gone _ id _ _

theorem beginHost_storeTables {s : State} (h : StoreTablesOk s.store) : StoreTablesOk (beginHost s).store := by
  unfold beginHost
  split
  · exact h
  · rename_i op hop
    exact ⟨h.contents, nofun, fun x e => by cases e; exact h.waiting op hop⟩

theorem beginRead_storeTables {s : State} (h : StoreTablesOk s.store) : StoreTablesOk (beginRead s).store := by
  unfold beginRead
  split
  · exact h
  · rw [(recordTransition_only _ _ _ _).store]
    exact h.run (some .readSet) nofun

theorem grantNext_storeTables {s : State} (h : StoreTablesOk s.store) : StoreTablesOk (grantNext s).store := by
  unfold grantNext
  split
  · exact beginRead_storeTables h
  · exact beginHost_storeTables h

theorem completeRead_storeTables {s : State} (ok : Bool) (h : StoreTablesOk s.store) :
    StoreTablesOk (completeRead ok s).store := by
  unfold completeRead
  split
  · exact h
  · refine grantNext_storeTables ?_
    rw [(readOutcome_only _ _ _).store]
    exact h.idle

theorem acceptHost_storeTables {s : State} {op : HostOp} (h : StoreTablesOk s.store) (hop : HostOpTablesOk op) :
    StoreTablesOk (acceptHost op s).store := by
  unfold acceptHost
  split
  · exact ⟨h.contents, h.waiting, fun x e => by cases e; exact hop⟩
  · exact ⟨h.contents, fun x e => by cases e; exact hop, h.running⟩

theorem handleSave_tablesOk {p : List Byte} {s : State} (hs : TablesOk s) : TablesOk (handleSave p s).state := by
  refine hs.of_store (handleSave_only p s) ?_
  unfold handleSave
  split
  · split
    · exact hs.store
    · split
      · exact hs.store
      · split
        · split
          · exact hs.store
          · exact acceptHost_storeTables hs.store (op := .saveFactory (captureFactory s)) hs.1
        · split
          · exact acceptHost_storeTables hs.store (op := .saveDealer s.patches) trivial
          · exact acceptHost_storeTables hs.store (op := .saveStart s.planner.live) trivial
  · exact hs.store

theorem handleClose_tablesOk {s : State} (hs : TablesOk s) : TablesOk (handleClose s).state := by
  refine hs.of_store (handleClose_only s) ?_
  unfold handleClose
  split
  · exact hs.store
  · split
    · exact hs.store
    · split
      · exact hs.store
      · exact acceptHost_storeTables hs.store (op := .close) trivial

/-- A completed save puts captured tables in the FACTORY region, and those are valid. -/
theorem StoreTablesOk.saved {st : Store} {op : HostOp} (ok : Bool) (h : StoreTablesOk st) (hop : HostOpTablesOk op) :
    StoreTablesOk (st.saved op ok) := by
  cases op with
  | saveFactory image => exact ⟨fun _ => hop, h.waiting, h.running⟩
  | saveDealer l => exact ⟨h.contents, h.waiting, h.running⟩
  | saveStart sc => exact ⟨h.contents, h.waiting, h.running⟩
  | close => exact ⟨h.contents, h.waiting, h.running⟩

theorem hostDone_storeTables {s : State} {op : HostOp} (ok : Bool) (h : StoreTablesOk s.store)
    (hop : HostOpTablesOk op) : StoreTablesOk (hostDone op ok s).store := by
  have hst := h.saved ok hop
  rw [hostDone, (post_only _ _).store]
  exact ⟨hst.contents, hst.waiting, nofun⟩

theorem completeSave_storeTables {s : State} (ok : Bool) (h : StoreTablesOk s.store) :
    StoreTablesOk (completeSave ok s).store := by
  unfold completeSave
  split
  · rename_i image hrun
    have hd := hostDone_storeTables ok h (h.running _ hrun)
    dsimp only
    refine grantNext_storeTables ?_
    split <;> exact hd
  · rename_i l hrun
    exact grantNext_storeTables (hostDone_storeTables ok h (h.running _ hrun))
  · rename_i sc hrun
    exact grantNext_storeTables (hostDone_storeTables ok h (h.running _ hrun))
  · exact h

theorem completeClose_storeTables {s : State} (ok : Bool) (h : StoreTablesOk s.store) :
    StoreTablesOk (completeClose ok s).store := by
  unfold completeClose
  split
  · rename_i hrun
    exact grantNext_storeTables (hostDone_storeTables ok h (h.running _ hrun))
  · exact h

theorem completeLoad_tablesOk {s : State} (hs : TablesOk s) : TablesOk (completeLoad s) := by
  unfold completeLoad
  split
  · have hfreed : TablesOk (s.withStore { s.store with running := none }) := hs.of_store (withStore_only s _) hs.store.idle
    have htabled : TablesOk (if s.store.factoryState = .valid then
        placeFactory s.store.factory (s.withStore { s.store with running := none })
        else s.withStore { s.store with running := none }) := by
      split
      · refine hfreed.of_tables (placeFactory_only _ _) ?_
        rw [placeFactory_tables]
        exact hs.store.contents ‹_›
      · exact hfreed
    have hpatched := htabled.of_tables (placePatches_only _) (placePatches_tables_valid htabled.1)
    have hended := (hpatched.of_frame (placeScene_only _)).of_frame (endLoading_only _)
    exact hended.of_store (grantNext_only _) (grantNext_storeTables hended.store)
  · exact hs

theorem release_tablesOk (h : Hold) {s : State} (hs : TablesOk s) : TablesOk (release h s) := by
  refine ⟨builtin_tables_valid, fun hv => hs.store.contents ?_, nofun, nofun⟩
  change examinedFactory s = .valid at hv
  unfold examinedFactory at hv
  split at hv
  · assumption
  · exact hv

theorem enterReset_tablesOk (h : Hold) {s : State} (hs : TablesOk s) : TablesOk (enterReset h s) :=
  hs.of_store (enterReset_only h s) hs.store.interrupted

/-! ## Every event -/

theorem effect_tablesOk (c : Instr) {s : State} (hs : TablesOk s) : TablesOk (effect c s) := by
  have request : ∀ {kind tag lengthOk ready} {handle : State → Handled},
      (∀ s, TablesOk s → TablesOk (handle s).state) → TablesOk (taken kind tag lengthOk ready handle s) :=
    fun hh => taken_keeps (fun s _ h => h.of_frame (withLink_only s _)) hh hs _ _ _ _
  have hf := effect_only c s
  cases c
  all_goals dsimp only [touches] at hf
  case tableWrite =>
    exact request fun s h => h.of_tables (handleTableWrite_only _ s) (handleTableWrite_tables_valid h.1)
  case patchPut => exact request fun s h => h.of_tables (handlePatchPut_only _ s) (handlePatchPut_tables_valid h.1)
  case save => exact request fun s h => handleSave_tablesOk h
  case closeFactory => exact request fun s h => handleClose_tablesOk h
  case readSetBegin =>
    refine hs.of_store hf ?_
    dsimp only [effect]
    split
    · exact beginRead_storeTables hs.store
    · exact hs.store
  case readSetComplete ok => exact hs.of_store hf (completeRead_storeTables ok hs.store)
  case hostOperationBegin =>
    refine hs.of_store hf ?_
    dsimp only [effect]
    split
    · exact beginHost_storeTables hs.store
    · exact hs.store
  case saveComplete ok => exact hs.of_store hf (completeSave_storeTables ok hs.store)
  case closeComplete ok => exact hs.of_store hf (completeClose_storeTables ok hs.store)
  case loadComplete => exact completeLoad_tablesOk hs
  all_goals exact hs.of_frame hf

theorem frameSent_tablesOk {s : State} (hs : TablesOk s) : TablesOk (frameSent s) := by
  unfold frameSent
  split
  · exact hs
  · split
    · exact enterReset_tablesOk _ hs
    · exact (hs.of_frame (withLink_only s _)).of_frame (beginNext_only _)

theorem losePower_tablesOk {s : State} (hs : TablesOk s) : TablesOk (losePower s) :=
  (enterReset_tablesOk .supplyCut hs).of_frame (withHold_only _ _)

theorem damageStored_tablesOk (i : Nat) (f : Words) {s : State} (hs : TablesOk s) : TablesOk (damageStored i f s) :=
  hs.of_store (withStore_only s _) ⟨hs.store.contents, hs.store.waiting, hs.store.running⟩

/-- Settles O6: every command keeps TablesOk, which says it of every copy of the tables on its way into or out of the store. -/
theorem tablesStayValid : Obligations.TablesStayValid := by
  intro s t hs h
  refine step_keeps (fun s _ h => h.of_frame (withPending_only s _)) (fun s _ h => h)
    (fun s _ h => h.of_frame (withLink_only s _)) (fun c s t hs h => ?_) hs h
  exact exec_keeps (P := TablesOk) (fun c s _ h => (effect_tablesOk c h).of_frame (pump_only _))
    (fun s h => frameSent_tablesOk h) (fun e s h => enterReset_tablesOk e h) (fun s h => losePower_tablesOk h)
    (fun e s h => h.of_frame (withHold_only s _)) (fun e s h => release_tablesOk e h)
    (fun i f s h => damageStored_tablesOk i f h) hs h

end Sys2Proof
end

section
/-! SUPPORT. Delay lines and the records of the output stage, channel by channel. -/

set_option Elab.async false

namespace Sys2Proof

open Sys2Proof.Machine

/-! ## A delay line recalls what entered (R16) -/

theorem getD_rdropWhile_zero (l : List Int) (i : Nat) : (l.rdropWhile (· = 0)).getD i 0 = l.getD i 0 := by
  induction l using List.reverseRecOn with
  | nil => rfl
  | append_singleton l a ih =>
    rw [List.rdropWhile_concat]
    split
    · rename_i ha
      obtain rfl : a = 0 := of_decide_eq_true ha
      rw [ih]
      by_cases hi : i < l.length
      · rw [List.getD_append _ _ _ _ hi]
      · rw [List.getD_append_right _ _ _ _ (not_lt.mp hi), List.getD_eq_default _ _ (not_lt.mp hi)]
        cases i - l.length <;> rfl
    · rfl

/-- Within its 960 places a line keeps the sample that entered and those before it. -/
theorem push_samples_getD (l : DelayLine) (x : Int) {i : Nat} (hi : i < 960) :
    (l.push x).samples.getD i 0 = (x :: l.samples).getD i 0 := by
  rw [DelayLine.push, getD_rdropWhile_zero, List.getD_eq_getElem?_getD, List.getElem?_take_of_lt hi,
    ← List.getD_eq_getElem?_getD]

/-- A cleared line after any samples: its canonical form, its delay, and the samples that entered, the latest first. -/
theorem foldl_push_cleared (d : Nat) (entered : List Int) :
    (entered.foldl DelayLine.push ⟨d, []⟩).wf = true ∧ (entered.foldl DelayLine.push ⟨d, []⟩).applied = d ∧
      ∀ i < 960, (entered.foldl DelayLine.push ⟨d, []⟩).samples.getD i 0 = entered.reverse.getD i 0 := by
  induction entered using List.reverseRecOn with
  | nil => exact ⟨rfl, rfl, fun i _ => rfl⟩
  | append_singleton entered x ih =>
    obtain ⟨-, happlied, hsamples⟩ := ih
    rw [List.foldl_concat]
    refine ⟨DelayLine.push_wf _ x, happlied, fun i hi => ?_⟩
    rw [push_samples_getD _ _ hi, List.reverse_concat]
    cases i with
    | zero => rfl
    | succ i => exact hsamples i (by omega)

/-- Settles O59, by induction on the samples that entered. -/
theorem delayLineRecalls : Obligations.DelayLineRecalls := by
  intro d entered x hd
  obtain ⟨hwf, happlied, hsamples⟩ := foldl_push_cleared d entered
  refine ⟨hwf, happlied, ?_⟩
  rw [DelayLine.present, happlied]
  cases d with
  | zero => rfl
  | succ d =>
    rw [List.getD_cons_succ, hsamples d (by omega), if_neg d.succ_ne_zero]
    split
    · exact List.getD_eq_default _ _ (by simp; omega)
    · have hlt : d < entered.reverse.length := by simp; omega
      rw [List.getD_eq_getElem _ _ hlt, List.getElem_reverse, List.getD_eq_getElem _ _ (by omega)]
      congr 1
      omega

/-! ## One record of a list of records -/

theorem getD_map_of_lt {α β : Type} {l : List α} {i : Nat} (h : i < l.length) (f : α → β) (a : α) (b : β) :
    (l.map f).getD i b = f (l.getD i a) := by
  rw [List.getD_eq_getElem _ _ (by simpa using h), List.getElem_map, List.getD_eq_getElem _ _ h]

theorem getD_zipIdx_map {α β : Type} {l : List α} {i : Nat} (h : i < l.length) (f : α × Nat → β) (a : α) (b : β) :
    (l.zipIdx.map f).getD i b = f (l.getD i a, i) := by
  rw [List.getD_eq_getElem _ _ (by simpa using h), List.getElem_map, List.getElem_zipIdx, List.getD_eq_getElem _ _ h,
    Nat.zero_add]

theorem getD_range_map {β : Type} {n i : Nat} (h : i < n) (f : Nat → β) (b : β) : ((List.range n).map f).getD i b = f i := by
  simp [h]

theorem mapOut_outChan {s : State} {c : Nat} (h : c < s.output.length) (f : OutChan → OutChan) :
    (s.mapOut f).outChan c = f (s.outChan c) := getD_map_of_lt h f _ _

@[simp] theorem mapOut_output (s : State) (f : OutChan → OutChan) : (s.mapOut f).output = s.output.map f := rfl

@[simp] theorem outChan_withLink (s : State) (l : Link) (c : Nat) : (s.withLink l).outChan c = s.outChan c := rfl

theorem Only.outChan {l : List Block} {s t : State} (h : Only l s t) (c : Nat) (hb : Block.output ∉ l := by decide) :
    t.outChan c = s.outChan c := by
  rw [State.outChan, h.output hb, State.outChan]

theorem Only.line {l : List Block} {s t : State} (h : Only l s t) (c : Nat) (hb : Block.lines ∉ l := by decide) :
    t.line c = s.line c := by
  rw [State.line, h.lines hb, State.line]

/-! ## A delay goes in (R67) -/

@[simp] theorem applyDelays_output (s : State) : (applyDelays s).output = s.output.map delayGone := rfl

theorem applyDelays_line {s : State} {c : Nat} (h : c < s.lines.length) :
    (applyDelays s).line c = match delayDue (s.outChan c) with
      | some d => ⟨d, []⟩
      | none => s.line c := by
  change (List.map _ s.lines.zipIdx).getD c _ = _
  rw [getD_zipIdx_map h _ DelayLine.reset]
  rfl

theorem delayGone_of_none {o : OutChan} (h : delayDue o = none) : delayGone o = o := by simp [delayGone, h]

/-- The set that holds DELAY alone. -/
theorem reasons_only_delay_iff (r : Reasons) :
    r = ⟨false, false, false, true, false⟩ ↔ r.delay = true ∧ ({ r with delay := false } : Reasons).isEmpty = true := by
  obtain ⟨a, b, c, d, e⟩ := r
  revert a b c d e
  decide

/-- A record whose delay goes in: no delay is pending, DELAY is removed, and a fader that it alone kept closed opens (R67). -/
theorem delayGone_of_due {o : OutChan} {d : Nat} (h : delayDue o = some d) :
    delayGone o =
      let f := { o.fader with
        reasons := { o.fader.reasons with delay := false }
        state := if o.fader.reasons = ⟨false, false, false, true, false⟩ then .opening else .closed }
      { o with pendingDelay := none, fader := f, shown := f } := by
  have hclosed : o.fader.state = .closed := by
    by_contra hne
    simp [delayDue, hne] at h
  have hput : o.fader.reasons.put .delay false = { o.fader.reasons with delay := false } := rfl
  simp only [delayGone, h, Option.isSome_some, if_true, OutChan.removeReason, hput, reasons_only_delay_iff]
  cases hd : o.fader.reasons.delay with
  | false =>
    have hsame : ({ o.fader.reasons with delay := false } : Reasons) = o.fader.reasons := by rw [← hd]
    simp [Reasons.has, hd, hsame, OutChan.show, ← hclosed]
  | true =>
    cases he : ({ o.fader.reasons with delay := false } : Reasons).isEmpty with
    | false => simp [Reasons.has, hd, OutChan.show, ← hclosed]
    | true => simp [Reasons.has, hd, OutChan.show, hclosed]

/-- Settles O25: the event posts nothing, and a channel's line and record follow from whether its delay is due. -/
theorem delayGoesInBehindClosedFader : Obligations.DelayGoesInBehindClosedFader := by
  intro s ha ⟨_, ⟨_, _, hout, hlines⟩, _⟩
  refine ⟨_, event_quiet ha (applyDelays_only s).link, (applyDelays_only s).mono (by decide), fun c hc => ?_⟩
  have hline := applyDelays_line (s := s) (c := c) (by omega)
  have hrec : (applyDelays s).outChan c = delayGone (s.outChan c) := getD_map_of_lt (show c < s.output.length by omega) delayGone _ _
  rw [hline, hrec]
  change match delayDue (s.outChan c) with
    | some d => _
    | none => _
  cases hdue : delayDue (s.outChan c) with
  | none => exact ⟨rfl, delayGone_of_none hdue⟩
  | some d => exact ⟨rfl, delayGone_of_due hdue⟩

/-! ## The output stage's boundary (R5, R20, R59, R63, R67) -/

/-- A channel's record after its closing step, the polarity and the clip count, before a delay may go in. -/
def steppedChan (slew : Int) (polarity : Polarity) (o : OutChan) : OutChan :=
  countClip { closeFader slew o with polarity := polarity }

theorem countClip_of_clear {o : OutChan} (h : o.clipMark = false) : countClip o = o := by simp [countClip, h]

theorem countClips_outChan {s : State} {c : Nat} (h : c < s.output.length) :
    (countClips s).outChan c = countClip (s.outChan c) := by
  unfold countClips
  split
  · rw [(post_only _ _).outChan, mapOut_outChan h]
  · rename_i hany
    have hclear : (s.outChan c).clipMark = false := by
      rw [State.outChan, List.getD_eq_getElem _ _ h]
      simpa using fun ht => hany (List.any_eq_true.mpr ⟨_, List.getElem_mem h, ht⟩)
    exact (countClip_of_clear hclear).symm

@[simp] theorem closeFader_clipMark (slew : Int) (o : OutChan) : (closeFader slew o).clipMark = o.clipMark := by
  unfold closeFader; dsimp only; split <;> [split <;> rfl; rfl]

/-- The state that the output stage's boundary finds when it comes to the delays. -/
def stepped (s : State) : State := countClips (takePolarity (s.mapOut (closeFader (s.tables.global .fastSlew))))

theorem outputBoundary_eq (s : State) : outputBoundary s = (applyDelays (stepped s)).mapOut OutChan.show := rfl

theorem stepped_only (s : State) : Only [.output, .link] s (stepped s) :=
  ((mapOut_only _ s).comp (takePolarity_only _) (n := [.output])).comp (countClips_only _)

theorem takePolarity_outChan {s : State} {c : Nat} (h : c < s.output.length) :
    (takePolarity s).outChan c = { s.outChan c with polarity := (s.tables.routeOf c).polarity } :=
  getD_zipIdx_map h _ OutChan.reset _

theorem stepped_outChan {s : State} {c : Nat} (h : c < s.output.length) :
    (stepped s).outChan c =
      steppedChan (s.tables.global .fastSlew) (s.tables.routeOf c).polarity (s.outChan c) := by
  rw [stepped, countClips_outChan (by simpa [takePolarity] using h), takePolarity_outChan (by simpa using h),
    mapOut_outChan h]
  rfl

theorem stepped_output_length (s : State) : (stepped s).output.length = s.output.length := by
  unfold stepped countClips
  split
  · rw [(post_only _ _).output]
    simp [takePolarity]
  · simp [takePolarity]

theorem outputBoundary_outChan {s : State} {c : Nat} (h : c < s.output.length) :
    (outputBoundary s).outChan c =
      (delayGone (steppedChan (s.tables.global .fastSlew) (s.tables.routeOf c).polarity (s.outChan c))).show := by
  have h' : c < (stepped s).output.length := by rwa [stepped_output_length]
  rw [outputBoundary_eq, mapOut_outChan (by simpa using h'), ← stepped_outChan h]
  exact congrArg OutChan.show (getD_map_of_lt h' delayGone _ _)

theorem outputBoundary_line {s : State} {c : Nat} (hl : c < s.lines.length) (h : c < s.output.length) :
    (outputBoundary s).line c =
      match delayDue (steppedChan (s.tables.global .fastSlew) (s.tables.routeOf c).polarity (s.outChan c)) with
      | some d => ⟨d, []⟩
      | none => s.line c := by
  rw [outputBoundary_eq, (mapOut_only _ _).line, applyDelays_line (by rwa [(stepped_only s).lines]), stepped_outChan h,
    (stepped_only s).line]

/-! What a channel's record is after the boundary, field by field. -/

theorem steppedChan_fader (slew : Int) (p : Polarity) (o : OutChan) :
    (steppedChan slew p o).fader = (closeFader slew o).fader := by
  unfold steppedChan countClip; split <;> rfl

theorem steppedChan_pendingDelay (slew : Int) (p : Polarity) (o : OutChan) :
    (steppedChan slew p o).pendingDelay = o.pendingDelay := by
  have h : (closeFader slew o).pendingDelay = o.pendingDelay := by
    unfold closeFader; dsimp only; split <;> [split <;> rfl; rfl]
  rw [← h]
  unfold steppedChan countClip
  split <;> rfl

theorem steppedChan_polarity (slew : Int) (p : Polarity) (o : OutChan) : (steppedChan slew p o).polarity = p := by
  unfold steppedChan countClip; split <;> rfl

theorem steppedChan_clipMark (slew : Int) (p : Polarity) (o : OutChan) : (steppedChan slew p o).clipMark = false := by
  unfold steppedChan countClip; split <;> simp_all

theorem steppedChan_clips (slew : Int) (p : Polarity) (o : OutChan) :
    (steppedChan slew p o).clipCount = (if o.clipMark then min 65535 (o.clipCount + 1) else o.clipCount) ∧
      (steppedChan slew p o).inClipSet = (o.inClipSet || o.clipMark) := by
  have h : (closeFader slew o).clipCount = o.clipCount ∧ (closeFader slew o).inClipSet = o.inClipSet := by
    unfold closeFader; dsimp only; split <;> [split <;> exact ⟨rfl, rfl⟩; exact ⟨rfl, rfl⟩]
  unfold steppedChan countClip
  cases hm : o.clipMark <;> simp [hm, h, bump]

/-- The closing step (R63). -/
theorem closeFader_fader (slew : Int) (o : OutChan) :
    (closeFader slew o).fader =
      if o.fader.state = .closing ∧ o.fader.level - slew ≤ -240 then { o.fader with level := -480, state := .closed }
      else if o.fader.state = .closing then { o.fader with level := o.fader.level - slew }
      else o.fader := by
  unfold closeFader
  by_cases hc : o.fader.state = .closing <;> by_cases hl : o.fader.level - slew ≤ -240 <;> simp [hc, hl]

/-- What a delay going in leaves alone. -/
theorem delayGone_fields (o : OutChan) :
    (delayGone o).polarity = o.polarity ∧ (delayGone o).clipMark = o.clipMark ∧ (delayGone o).clipCount = o.clipCount ∧
      (delayGone o).inClipSet = o.inClipSet ∧ (delayGone o).fader.level = o.fader.level := by
  cases h : delayDue o with
  | none => rw [delayGone_of_none h]; exact ⟨rfl, rfl, rfl, rfl, rfl⟩
  | some d => rw [delayGone_of_due h]; exact ⟨rfl, rfl, rfl, rfl, rfl⟩

/-- A fader is CLOSED for the delays if its closing step has shut it or it was CLOSED before. -/
theorem closeFader_closed_iff (slew : Int) (o : OutChan) :
    (closeFader slew o).fader.state = .closed ↔
      (o.fader.state = .closing ∧ o.fader.level - slew ≤ -240) ∨ o.fader.state = .closed := by
  rw [closeFader_fader]
  split
  · simp [*]
  · split <;> simp_all

theorem closeFader_reasons (slew : Int) (o : OutChan) : (closeFader slew o).fader.reasons = o.fader.reasons := by
  rw [closeFader_fader]
  split
  · rfl
  · split <;> rfl

theorem closeFader_state (slew : Int) (o : OutChan) :
    (closeFader slew o).fader.state =
      if o.fader.state = .closing ∧ o.fader.level - slew ≤ -240 then .closed else o.fader.state := by
  rw [closeFader_fader]
  split
  · rfl
  · split <;> rfl

theorem delayDue_steppedChan (slew : Int) (p : Polarity) (o : OutChan) :
    delayDue (steppedChan slew p o) =
      if (o.fader.state = .closing ∧ o.fader.level - slew ≤ -240) ∨ o.fader.state = .closed then o.pendingDelay else none := by
  rw [delayDue, steppedChan_fader, steppedChan_pendingDelay]
  exact if_congr (closeFader_closed_iff slew o) rfl rfl

/-! What the boundary sends: CLIP where a mark was counted. -/

theorem map_zipIdx_map {α β γ : Type} (l : List α) {f : α × Nat → β} {g : β → γ} {h : α → γ}
    (hfg : ∀ p, g (f p) = h p.1) : (l.zipIdx.map f).map g = l.map h := by
  rw [List.map_map, show g ∘ f = h ∘ Prod.fst from funext hfg, ← List.map_map, List.zipIdx_map_fst]

theorem outputBoundary_link (s : State) :
    (outputBoundary s).link =
      if s.output.any (·.clipMark) then
        { s.link with notices := s.link.notices ++ [Notice.clip].filter fun n => n ∉ s.link.notices }
      else s.link := by
  have hmarks : (takePolarity (s.mapOut (closeFader (s.tables.global .fastSlew)))).output.map (·.clipMark) =
      s.output.map (·.clipMark) := by
    rw [takePolarity, State.withOutput_output, map_zipIdx_map (h := OutChan.clipMark), mapOut_output, List.map_map]
    · exact List.map_congr_left fun o _ => closeFader_clipMark _ o
    · exact fun _ => rfl
  have hany : ∀ l : List OutChan, l.any (·.clipMark) = (l.map (·.clipMark)).any id := fun l => by
    rw [List.any_map]; rfl
  have hlink : (outputBoundary s).link = (stepped s).link := rfl
  rw [hlink, stepped, countClips, hany, hmarks, ← hany]
  split
  · exact post_link _ _
  · rfl

theorem any_clipMark_iff {s : State} (h : s.output.length = 24) :
    s.output.any (·.clipMark) = false ↔ ∀ c ∈ List.range 24, (s.outChan c).clipMark = false := by
  rw [List.any_eq_false]
  constructor
  · intro hall c hc
    have hlt : c < s.output.length := by simpa [h] using hc
    rw [State.outChan, List.getD_eq_getElem _ _ hlt]
    simpa using hall _ (List.getElem_mem hlt)
  · intro hall o ho
    obtain ⟨c, hlt, rfl⟩ := List.mem_iff_getElem.mp ho
    have := hall c (by simpa [h] using hlt)
    rw [State.outChan, List.getD_eq_getElem _ _ hlt] at this
    simp [this]

/-- The transmitter's beginning changes of a channel's record at most its mark in the clip set. -/
theorem pump_outChan {u : State} {c : Nat} (h : c < u.output.length) :
    ∃ b, (pump u).outChan c = { u.outChan c with inClipSet := b } := by
  have hreply : ∀ v : State, v.output = u.output →
      ∃ b, (beginReply v).outChan c = { u.outChan c with inClipSet := b } := fun v hv =>
    ⟨_, by rw [(beginReply_only v).outChan, State.outChan, hv]; rfl⟩
  have hnotice : ∀ v : State, v.output = u.output →
      ∃ b, (beginNotice v).outChan c = { u.outChan c with inClipSet := b } := by
    intro v hv
    have hsame : v.outChan c = u.outChan c := by rw [State.outChan, hv, State.outChan]
    unfold beginNotice
    split
    · exact ⟨_, hsame⟩
    · dsimp only
      split
      · exact ⟨false, by rw [mapOut_outChan (by rw [State.withLink_output, hv]; exact h), outChan_withLink, hsame]⟩
      · exact ⟨_, hsame⟩
  unfold pump
  split
  · exact ⟨_, rfl⟩
  · split
    · dsimp only
      split
      · exact hnotice _ rfl
      · exact hreply _ rfl
    · unfold beginNext
      split
      · exact hreply u rfl
      · exact hnotice u rfl

/-- An event that leaves the link as it is begins no frame. -/
theorem pump_quiet {s u : State} (ha : Awake s) (h : u.link = s.link) : pump u = u := by
  have hq := event_quiet ha (f := fun _ => u) h
  rw [event_next ha.1] at hq
  exact Host.Outcome.next.inj hq

theorem pump_busy {u : State} (h : u.link.tx ≠ none) : pump u = u := by
  simp [pump, Option.isSome_iff_ne_none.mpr h]

/-- An idle transmitter that finds CLIP alone waiting sends the clip set and empties it (R21). -/
theorem pump_clip {u : State} (htx : u.link.tx = none) (hr : u.link.replies = []) (hn : u.link.notices = [.clip]) :
    pump u = (u.withLink { u.link with tx := some ⟨0x46, 0, clipContent u⟩, notices := [] }).mapOut
      fun o => { o with inClipSet := false } := by
  simp [pump, htx, hr, hn, beginNext, beginNotice, noticeContent, Notice.code]

/-- Settles O24: the records from their rule channel by channel, the link from whether a clip mark was counted. -/
theorem outputBoundaryClosesAndCounts : Obligations.OutputBoundaryClosesAndCounts := by
  intro s ha hshape
  obtain ⟨-, ⟨-, -, hout, hlines⟩, -⟩ := hshape
  have houtU : (outputBoundary s).output.length = 24 := by
    rw [outputBoundary_eq, mapOut_output, applyDelays_output, List.length_map, List.length_map, stepped_output_length,
      hout]
  have hlink := outputBoundary_link s
  have hinSet : ∀ c, c < 24 → ((outputBoundary s).outChan c).inClipSet =
      ((s.outChan c).inClipSet || (s.outChan c).clipMark) := by
    intro c hc
    rw [outputBoundary_outChan (by omega)]
    exact (delayGone_fields _).2.2.2.1.trans (steppedChan_clips _ _ _).2
  refine ⟨_, event_next ha.1 _, ?_, fun c hc => ?_, ?_⟩
  · refine ((outputBoundary_only s).comp (pump_only _) (n := [.lines, .output, .link, .draws])).tighten .draws
      ((pump_draws ?_).trans (outputBoundary_only s).draws)
    have htx : (outputBoundary s).link.tx = s.link.tx ∧ (outputBoundary s).link.replies = s.link.replies := by
      rw [hlink]; split <;> exact ⟨rfl, rfl⟩
    rw [htx.1, htx.2]
    by_cases h : s.link.tx = none
    · exact .inl (ha.2.2.2 h).1
    · exact .inr (.inr h)
  · obtain ⟨b, hp⟩ := pump_outChan (u := outputBoundary s) (c := c) (by omega)
    have hline := outputBoundary_line (s := s) (c := c) (by omega) (by omega)
    rw [← (pump_only (outputBoundary s)).line c] at hline
    rw [outputBoundary_outChan (by omega)] at hp
    rw [delayDue_steppedChan] at hline
    obtain ⟨hpol, hmark, hcount, -, hlevel⟩ := delayGone_fields
      (steppedChan (s.tables.global .fastSlew) (s.tables.routeOf c).polarity (s.outChan c))
    rw [steppedChan_polarity] at hpol
    rw [steppedChan_clipMark] at hmark
    rw [(steppedChan_clips _ _ _).1] at hcount
    rw [steppedChan_fader, closeFader_fader] at hlevel
    have hgone := delayDue_steppedChan (s.tables.global .fastSlew) (s.tables.routeOf c).polarity (s.outChan c)
    rw [hp]
    refine ⟨?_, hpol, hmark, rfl, hcount, ?_⟩
    · refine hlevel.trans ?_
      split
      · rfl
      · split <;> rfl
    · have hreasons := closeFader_reasons (s.tables.global .fastSlew) (s.outChan c)
      have hstate := closeFader_state (s.tables.global .fastSlew) (s.outChan c)
      rw [← steppedChan_fader _ (s.tables.routeOf c).polarity] at hreasons hstate
      have hpending := steppedChan_pendingDelay (s.tables.global .fastSlew) (s.tables.routeOf c).polarity (s.outChan c)
      cases hd : (s.outChan c).pendingDelay with
      | none =>
        rw [hd, ite_self] at hgone hline
        rw [hd] at hpending
        rw [delayGone_of_none hgone]
        exact ⟨hline, hpending, hreasons, hstate⟩
      | some d =>
        rw [hd] at hgone hline hpending
        dsimp only
        split
        · rw [if_pos ‹_›] at hgone hline
          rw [delayGone_of_due hgone]
          exact ⟨hline, rfl, by dsimp only [OutChan.show]; rw [hreasons], by dsimp only [OutChan.show]; rw [hreasons]⟩
        · rename_i hopen
          rw [if_neg hopen] at hgone hline
          rw [delayGone_of_none hgone]
          exact ⟨hline, hpending, hreasons, hstate.trans (if_neg fun h => hopen (.inl h))⟩
  · dsimp only
    split
    · rename_i hclear
      rw [(any_clipMark_iff hout).mpr hclear] at hlink
      have hsame : (outputBoundary s).link = s.link := by simpa using hlink
      rw [pump_quiet ha hsame]
      exact ⟨hsame, fun c hc => by rw [hinSet c hc, hclear c (List.mem_range.mpr hc), Bool.or_false]⟩
    · rename_i hmarked
      have hany : s.output.any (·.clipMark) = true := by
        rw [← any_clipMark_iff hout] at hmarked
        simpa using hmarked
      rw [if_pos hany] at hlink
      split
      · rename_i htx
        obtain ⟨hr, hn⟩ := ha.2.2.2 htx
        have hcontent : clipContent (outputBoundary s) = (List.range 3).map fun k => marksByte ((List.range 8).map fun n =>
            (s.outChan (8 * k + n)).inClipSet || (s.outChan (8 * k + n)).clipMark) := by
          refine List.map_congr_left fun k hk => congrArg marksByte (List.map_congr_left fun n hn => hinSet _ ?_)
          rw [List.mem_range] at hk hn
          omega
        rw [pump_clip (by rw [hlink]; exact htx) (by rw [hlink]; exact hr) (by rw [hlink, hn]; rfl)]
        refine ⟨?_, fun c hc => ?_⟩
        · rw [(mapOut_only _ _).link, State.withLink_link, hlink, hcontent, ← hn]
        · rw [mapOut_outChan (by rw [State.withLink_output]; omega)]
      · rename_i htx
        rw [pump_busy (by rw [hlink]; exact htx)]
        exact ⟨hlink, hinSet⟩

end Sys2Proof
end

section
/-! SUPPORT. The planner's boundary, the sample period, the sending of frames, and reset. -/

set_option Elab.async false

namespace Sys2Proof

open Sys2Proof.Machine

/-! ## The planner's boundary (R46) -/

theorem followsRear_iff (live : Scene) (r : Route) :
    followsRear live r = true ↔ live.val .zoneMode = 1 ∧ r.zone = .rear := by
  simp [followsRear, separate]

theorem toneSteps_eq (s : State) (c : Nat) :
    toneSteps s c =
      let live := s.planner.live
      let rear := live.val .zoneMode = 1 ∧ (s.tables.routeOf c).zone = .rear
      ⟨max (-12) (min 12 ((if rear then live.val .bassRear else live.val .bass) + s.tracker.bassOffset)),
        max (-12) (min 12 (if rear then live.val .trebleRear else live.val .treble))⟩ := by
  simp only [toneSteps, userBass, userTreble, followsRear_iff, clamp]

theorem sourceOf_eq (live : Scene) (r : Route) :
    sourceOf live r = if live.val .zoneMode = 1 ∧ r.zone = .rear then .progB else .progA := by
  simp only [sourceOf, followsRear_iff]

/-- Settles O18: both rows begin with the same commit, and the plan is computed from what it leaves. -/
theorem plannerBoundaryFollowsCommit : Obligations.PlannerBoundaryFollowsCommit := by
  intro s ha
  have hcommit := commitIfMarked_only s
  have hplan := computePlan_only (commitIfMarked s)
  refine ⟨commitIfMarked s, computePlan (commitIfMarked s), event_quiet ha hcommit.link,
    event_quiet ha (f := fun s => computePlan (commitIfMarked s)) (hplan.link.trans hcommit.link), hplan, rfl,
    ⟨?_, ?_, ?_, ?_⟩, fun c hc => ⟨?_, ?_, ?_, ?_⟩⟩
  iterate 4 exact (List.length_map _).trans List.length_range
  · exact getD_range_map hc _ _
  · exact (getD_range_map hc _ _).trans (toneSteps_eq _ c)
  · exact getD_range_map hc (fun c => (commitIfMarked s).tables.ceiling.getD c 0) _
  · rw [← sourceOf_eq]
    exact getD_range_map hc (fun c => (⟨sourceOf (commitIfMarked s).planner.live ((commitIfMarked s).tables.routeOf c),
      ((commitIfMarked s).tables.routeOf c).leg⟩ : MixChan)) _

/-! ## The sample period (R13, R14, R18, R19, R98) -/

theorem roundHalfUp_20 (v : Int) : roundHalfUp 20 v = (v + 524288) / 1048576 := rfl

theorem roundHalfUp_22 (v : Int) : roundHalfUp 22 v = (v + 2097152) / 4194304 := rfl

theorem bne_eq_decide_ne (a b : Int) : (a != b) = decide (a ≠ b) := by
  by_cases h : a = b <;> simp [h]

/-- The programme sample is the channel's leg of the port of its source (R12, R13). -/
theorem programmeSample_eq (p : Ports) (m : MixChan) :
    programmeSample p m =
      let port := if m.source = .progA then p.progA else p.progB
      match m.leg with
      | .left => port[0].toInt
      | .right => port[1].toInt
      | .sum => (port[0].toInt + port[1].toInt + 1) / 2 := by
  obtain ⟨source, leg⟩ := m
  cases source <;> cases leg <;> rfl

/-- One section, and then the rest of the channel's sections (R98, R99, R106). -/
theorem runSections_cons (e : EqSection) (rest : List EqSection) (x : Int) :
    runSections (e :: rest) x =
      let v := (e.words.b0.toInt * x + e.words.b1.toInt * e.x1 + e.words.b2.toInt * e.x2 - e.words.a1.toInt * e.y1 -
        e.words.a2.toInt * e.y2 + 2097152) / 4194304
      let y := max (-2147483648) (min 2147483647 v)
      if e.bypass = true then (e :: (runSections rest x).1, (runSections rest x).2.1, (runSections rest x).2.2)
      else
        ({ e with x1 := x, x2 := e.x1, y1 := y, y2 := e.y1 } :: (runSections rest y).1, (runSections rest y).2.1,
          decide (y ≠ v) || (runSections rest y).2.2) := by
  cases hb : e.bypass with
  | true => simp [runSections, runSection, hb]
  | false =>
    simp only [runSections, runSection, hb, sectionSum, roundHalfUp_22, limit32, clamp, bne_eq_decide_ne]
    rfl

/-- The mix of a channel: its programme leg and the two lanes weighted by their gain words (R14). -/
theorem mixSample_eq (p : Ports) (m : MixChan) (a : PathGains) :
    mixSample p m a =
      let port := if m.source = .progA then p.progA else p.progB
      let leg := match m.leg with
        | .left => port[0].toInt
        | .right => port[1].toInt
        | .sum => (port[0].toInt + port[1].toInt + 1) / 2
      (leg * gainWord a.prog + p.ann[0].toInt * gainWord a.slot1 + p.ann[1].toInt * gainWord a.slot2 + 524288) / 1048576 := by
  rw [mixSample, roundHalfUp_20, programmeSample_eq]

/-- What a sample period makes of a channel with a given mix (R15, R16, R18, R19). -/
theorem runChannel_of_mix {p : Ports} {s : State} {c : Nat} {mix : Int}
    (hmix : mixSample p (s.mixer.getD c MixChan.reset) (s.ramp.applied.getD c PathGains.mute) = mix) :
    let eq := runSections (s.eq.getD c []) mix
    let o := s.outChan c
    let v := (((eq.2.1 :: (s.line c).samples).getD (s.line c).applied 0) * gainWord o.fader.level + 524288) / 1048576
    let signed := if o.polarity = .inverted then -v else v
    let limited := max (-8388608) (min 8388607 signed)
    (runChannel p s c).word = BitVec.ofInt 24 limited ∧ (runChannel p s c).sections = eq.1 ∧
      (runChannel p s c).line = (s.line c).push eq.2.1 ∧
      (runChannel p s c).clipped = (eq.2.2 || decide (limited ≠ signed)) := by
  subst hmix
  exact ⟨rfl, rfl, rfl, congrArg (or (runSections _ _).2.2) (bne_eq_decide_ne _ _)⟩

/-- Settles O58: the words, sections and lines are those of `runChannel`, whose parts are said above. -/
theorem samplePeriodRule : Obligations.SamplePeriodRule := by
  refine ⟨fun p s ha hshape => ?_, runSections_cons⟩
  obtain ⟨-, ⟨-, -, hout, -⟩, -⟩ := hshape
  refine ⟨_, event_quiet ha (samplePeriod_only p s).link, samplePeriod_only p s, rfl,
    (List.length_map _).trans ((List.length_map _).trans List.length_range), fun c hc => ?_⟩
  have hword : (samplePeriod p s).audio.stage1.getD c 0 = (runChannel p s c).word := by
    change (((List.range 24).map (runChannel p s)).map (·.word)).getD c 0 = _
    rw [List.map_map, getD_range_map hc]
    rfl
  have heq : (samplePeriod p s).eq.getD c [] = (runChannel p s c).sections := by
    change (((List.range 24).map (runChannel p s)).map (·.sections)).getD c [] = _
    rw [List.map_map, getD_range_map hc]
    rfl
  have hline : (samplePeriod p s).line c = (runChannel p s c).line := by
    change (((List.range 24).map (runChannel p s)).map (·.line)).getD c _ = _
    rw [List.map_map, getD_range_map hc]
    rfl
  have hrec : (samplePeriod p s).outChan c =
      { s.outChan c with clipMark := (s.outChan c).clipMark || (runChannel p s c).clipped } :=
    getD_zipIdx_map (by omega) _ OutChan.reset _
  rw [hword, heq, hline, hrec]
  obtain ⟨hw, hs, hl, hclip⟩ := runChannel_of_mix (s := s) (c := c) (mixSample_eq p _ _)
  exact ⟨hw, hs, hl, congrArg (fun b => ({ s.outChan c with clipMark := b } : OutChan))
    ((congrArg _ hclip).trans (Bool.or_assoc _ _ _).symm)⟩

end Sys2Proof
end

section
/-! SUPPORT. The end of a frame, and the beginning and end of a reset. -/

set_option Elab.async false

namespace Sys2Proof

open Sys2Proof.Machine

/-! ## The end of a frame (R181, R185) -/

theorem isRestartReply_iff (f : Frame) : isRestartReply f = true ↔ f.kind = 0x8F ∧ f.payload.head? = some 0 := by
  rw [isRestartReply, Bool.and_eq_true]
  exact and_congr decide_eq_true_iff decide_eq_true_iff

theorem frameSent_restart {s : State} {f : Frame} (h : s.link.tx = some f)
    (hr : s.link.restartPending = true ∧ f.kind = 0x8F ∧ f.payload.head? = some 0) :
    frameSent s = enterReset .restartRequest s := by
  rw [← isRestartReply_iff] at hr
  simp only [frameSent, h, if_pos hr]

theorem frameSent_next {s : State} {f : Frame} (h : s.link.tx = some f)
    (hr : ¬(s.link.restartPending = true ∧ f.kind = 0x8F ∧ f.payload.head? = some 0)) :
    frameSent s = beginNext (s.withLink { s.link with tx := none }) := by
  rw [← isRestartReply_iff] at hr
  simp only [frameSent, h, if_neg hr]

theorem beginNext_reply {u : State} {r : Frame} {rest : List Frame} (h : u.link.replies = r :: rest) :
    beginNext u = u.withLink { u.link with tx := some r, replies := rest } := by
  simp [beginNext, beginReply, h]

/-- With no reply waiting the first notice begins; CLIP empties the clip set (R21, R182). -/
theorem beginNext_notice {u : State} {n : Notice} {rest : List Notice} (hr : u.link.replies = [])
    (hn : u.link.notices = n :: rest) :
    (beginNext u).output = (if n = .clip then u.output.map (fun o => { o with inClipSet := false }) else u.output) ∧
      (beginNext u).link = { u.link with tx := some ⟨n.code, 0, noticeContent u n⟩, notices := rest } := by
  simp only [beginNext, hr, ne_eq, not_true_eq_false, if_false, beginNotice, hn]
  split <;> exact ⟨rfl, rfl⟩

theorem beginNext_idle {u : State} (hr : u.link.replies = []) (hn : u.link.notices = []) : beginNext u = u := by
  simp [beginNext, beginNotice, hr, hn]

theorem countSets_eq_countP (s : State) (x : SetState) :
    countSets s x = s.integrity.sets.countP fun e => e.state = x := List.countP_eq_length_filter.symm

/-- What a reset leaves of the store is what R168 says. -/
theorem interrupted_eq_afterReset (st : Store) : st.interrupted = afterReset st := by
  unfold Store.interrupted afterReset
  cases st.running with
  | none => rfl
  | some op =>
    cases op with
    | load => rfl
    | readSet => rfl
    | host op => cases op <;> rfl

theorem enterReset_store (h : Hold) (s : State) : (enterReset h s).store = afterReset s.store :=
  interrupted_eq_afterReset s.store

/-- Settles O55, along the branches of `frameSent` and `beginNext`. -/
theorem frameSentBeginsNext : Obligations.FrameSentBeginsNext := by
  intro s ha
  refine ⟨frameSent s, by rw [exec_frameSent, ha.1]; rfl, ?_⟩
  cases htx : s.link.tx with
  | none => simp only [frameSent, htx]
  | some f =>
    dsimp only
    split
    · rename_i hrestart
      rw [frameSent_restart htx hrestart]
      exact ⟨enterReset_only _ s, rfl, rfl, rfl, rfl, rfl, enterReset_store _ s⟩
    · rename_i hrestart
      rw [frameSent_next htx hrestart]
      refine ⟨(withLink_only s _).comp (beginNext_only _), ?_⟩
      cases hr : s.link.replies with
      | cons r rest =>
        dsimp only
        rw [beginNext_reply (u := s.withLink { s.link with tx := none }) hr]
        exact ⟨rfl, rfl⟩
      | nil =>
        cases hn : s.link.notices with
        | nil =>
          rw [beginNext_idle (u := s.withLink { s.link with tx := none }) hr hn]
          exact ⟨rfl, by simp [hr, hn]⟩
        | cons n rest =>
          obtain ⟨hout, hlink⟩ := beginNext_notice (u := s.withLink { s.link with tx := none }) hr hn
          refine ⟨hout, hlink.trans ?_⟩
          rw [noticeContent_only ((withLink_only s _).mono (by decide)) n, ← hr]
          cases n
          case coeffState => simp only [noticeContent, coeffContent, countSets_eq_countP]; rfl
          all_goals rfl

/-! ## Reset (R142, R168, R172, R175) -/

theorem stable_iff (w : Words) :
    stable w = true ↔ w.a2.toInt.natAbs < 4194304 ∧ (w.a1.toInt.natAbs : Int) < 4194304 + w.a2.toInt := by
  simp only [stable, Bool.and_eq_true, decide_eq_true_eq]

/-- A hold that is not in force is one whose end changes no mark. -/
theorem drop_eq_self_iff (h : ResetHold) (e : Hold) : h.drop e = h ↔ h.has e = false := by
  obtain ⟨supply, pin, restart, cutSeen, powerLost⟩ := h
  cases e <;> simp [ResetHold.drop, ResetHold.has, eq_comm]

theorem examinedFactory_of_not_valid {s : State} (h : s.store.factoryState ≠ .valid) :
    examinedFactory s = s.store.factoryState := if_neg h

theorem imageDamaged_eq_false_iff (f : FactoryImage) : imageDamaged f = false ↔ ∀ e ∈ f.sets, e.checkOk = true := by
  simp [imageDamaged]

/-- A VALID region of full tables at a release: CORRUPT where its contents break a constraint, VALID where they break none and
no copy is damaged, and one of the two in any case (R162). -/
theorem examinedFactory_of_valid {s : State} (hv : s.store.factoryState = .valid)
    (hfull : TablesFull s.store.factory.tables) :
    let sound := TablesMeet s.store.factory.tables ∧ ∀ e ∈ s.store.factory.sets,
      e.words.a2.toInt.natAbs < 4194304 ∧ (e.words.a1.toInt.natAbs : Int) < 4194304 + e.words.a2.toInt
    (¬sound → examinedFactory s = .corrupt) ∧
      (sound → (∀ e ∈ s.store.factory.sets, e.checkOk = true) → examinedFactory s = .valid) ∧
      (examinedFactory s = .valid ∨ examinedFactory s = .corrupt) := by
  have hok := imageOk_iff hfull
  simp only [stable_iff] at hok
  dsimp only
  rw [← hok, ← imageDamaged_eq_false_iff, examinedFactory, if_pos hv]
  refine ⟨fun hbad => if_neg fun h => hbad h.2, fun hgood hcopies => if_pos ⟨by simp [hcopies], hgood⟩, ?_⟩
  split
  · exact .inl rfl
  · exact .inr rfl

/-- The end of a hold: no event where it is not in force, one hold less where another stands, and otherwise the release, over the
store as it stands with its FACTORY region examined (R162, R172, R175). -/
theorem resetRelease_answers (e : Hold) (s : State) :
    let left := s.hold.drop e
    ∃ t, exec (.resetRelease e) s = .next t ∧
      if left = s.hold then t = s
      else if left.supply = true ∨ left.restart = true ∨ left.pin = true then t = s.withHold left
      else
        t = { State.reset with
            store := s.store.released t.store.factoryState
            record := recordAfter s.hold e s.record
            draws := t.draws, pending := s.pending, received := s.received } ∧
          (s.store.factoryState ≠ .valid → t.store.factoryState = s.store.factoryState) ∧
          (s.store.factoryState = .valid → TablesFull s.store.factory.tables →
            let sound := TablesMeet s.store.factory.tables ∧ ∀ e ∈ s.store.factory.sets,
              e.words.a2.toInt.natAbs < 4194304 ∧ (e.words.a1.toInt.natAbs : Int) < 4194304 + e.words.a2.toInt
            (¬sound → t.store.factoryState = .corrupt) ∧
            (sound → (∀ e ∈ s.store.factory.sets, e.checkOk = true) → t.store.factoryState = .valid) ∧
            (t.store.factoryState = .valid ∨ t.store.factoryState = .corrupt)) := by
  refine ⟨_, exec_resetRelease e s, ?_⟩
  have hheld : (s.withHold (s.hold.drop e)).held = true ↔
      (s.hold.drop e).supply = true ∨ (s.hold.drop e).restart = true ∨ (s.hold.drop e).pin = true := by
    simp only [State.held, State.withHold_hold, Bool.or_eq_true]
    tauto
  simp only [drop_eq_self_iff, ← hheld]
  cases hhas : s.hold.has e with
  | false => rfl
  | true =>
    rw [if_neg (by decide), if_pos rfl, endHold]
    split
    · rfl
    · exact ⟨rfl, examinedFactory_of_not_valid, examinedFactory_of_valid⟩

/-- Settles O56: the beginning of a hold row by row; its end by whether the hold is in force and another stands. -/
theorem resetHoldsAndReleases : Obligations.ResetHoldsAndReleases := by
  refine ⟨fun c s hc => ?_, fun e s => ?_⟩
  · obtain rfl | rfl | rfl := hc
    · refine ⟨_, exec_supplyCut s, enterReset_only _ s, ?_, rfl, rfl, rfl, rfl, ?_, enterReset_store _ s⟩
      · rfl
      · simp [enterReset, ResetHold.add]
    · refine ⟨_, exec_resetPin s, enterReset_only _ s, ?_, rfl, rfl, rfl, rfl, rfl, enterReset_store _ s⟩
      simp [State.held, enterReset, ResetHold.add]
    · refine ⟨_, exec_powerLoss s, losePower_only s, rfl, rfl, rfl, rfl, rfl, ?_, enterReset_store .supplyCut s⟩
      simp [losePower, enterReset, ResetHold.add]
  · have h := resetRelease_answers e s
    cases e <;> exact h

end Sys2Proof
end

section
/-! SUPPORT. Applied and pending delays stay in range, and delay lines in their form. -/

set_option Elab.async false

namespace Sys2Proof

open Sys2Proof.Machine

/-! ## What keeps every line and every pending delay -/

/-- The delay lines stand, and every channel has the pending delay that it had. -/
def KeepsDelays (s t : State) : Prop :=
  t.lines = s.lines ∧ t.output.map (·.pendingDelay) = s.output.map (·.pendingDelay)

theorem KeepsDelays.refl (s : State) : KeepsDelays s s := ⟨rfl, rfl⟩

theorem KeepsDelays.trans {s t u : State} (h : KeepsDelays s t) (h' : KeepsDelays t u) : KeepsDelays s u :=
  ⟨h'.1.trans h.1, h'.2.trans h.2⟩

theorem KeepsDelays.of_only {l : List Block} {s t : State} (h : Only l s t) (hl : Block.lines ∉ l := by decide)
    (ho : Block.output ∉ l := by decide) : KeepsDelays s t :=
  ⟨h.lines hl, by rw [h.output ho]⟩

theorem KeepsDelays.ite {s t u : State} {p : Prop} [Decidable p] (h : p → KeepsDelays s t) (h' : ¬p → KeepsDelays s u) :
    KeepsDelays s (if p then t else u) := by
  split
  · exact h ‹_›
  · exact h' ‹_›

theorem mapOut_keepsDelays {f : OutChan → OutChan} (hf : ∀ o, (f o).pendingDelay = o.pendingDelay) (s : State) :
    KeepsDelays s (s.mapOut f) :=
  ⟨rfl, by rw [mapOut_output, List.map_map]; exact List.map_congr_left fun o _ => hf o⟩

theorem modifyOut_keepsDelays {f : OutChan → OutChan} (hf : ∀ o, (f o).pendingDelay = o.pendingDelay) (c : Nat) (s : State) :
    KeepsDelays s (s.modifyOut c f) := by
  refine ⟨rfl, List.ext_getElem? fun i => ?_⟩
  rw [State.modifyOut, State.withOutput_output, List.getElem?_map, List.getElem?_modify, List.getElem?_map]
  cases s.output[i]? with
  | none => split <;> rfl
  | some o =>
    split
    · exact congrArg some (hf o)
    · rfl

/-! One channel's record. -/

theorem removeReason_pendingDelay (x : Reason) (o : OutChan) : (o.removeReason x).pendingDelay = o.pendingDelay := by
  unfold OutChan.removeReason
  dsimp only
  split
  · rfl
  · split
    · rfl
    · split <;> rfl

theorem writeEnabled_pendingDelay (was now : Bool) (o : OutChan) : (o.writeEnabled was now).pendingDelay = o.pendingDelay := by
  unfold OutChan.writeEnabled
  split
  · rfl
  · split
    · exact removeReason_pendingDelay _ o
    · rfl

theorem openFader_pendingDelay (slew : Int) (o : OutChan) : (openFader slew o).pendingDelay = o.pendingDelay := by
  unfold openFader
  split <;> rfl

/-! The shared operations. -/

theorem clearFault_keepsDelays (i : Nat) (s : State) : KeepsDelays s (clearFault i s) :=
  .ite (fun _ => modifyOut_keepsDelays (removeReason_pendingDelay _) _ s) fun _ => .refl s

theorem recordTransition_keepsDelays (i : Nat) (x : SetState) (r : Bool) (s : State) :
    KeepsDelays s (recordTransition i x r s) := .of_only (recordTransition_only i x r s)

theorem examine_keepsDelays (i : Nat) (s : State) : KeepsDelays s (examine i s) := by
  refine .ite (fun _ => ?_) fun _ => .refl s
  refine KeepsDelays.trans ?_ (recordTransition_keepsDelays _ _ _ _)
  exact .ite (fun _ => modifyOut_keepsDelays (fun _ => by rfl) _ _) fun _ => ⟨rfl, rfl⟩

theorem eqBoundary_keepsDelays (s : State) : KeepsDelays s (eqBoundary s) := by
  have hchecks : ∀ (l : List Nat) (s : State), KeepsDelays s (l.foldl (fun s i => examine i s) s) := by
    intro l
    induction l with
    | nil => exact .refl
    | cons i l ih => exact fun s => (examine_keepsDelays i s).trans (ih _)
  exact hchecks _ _

theorem readOutcome_keepsDelays (r : ReadRec) (ok : Bool) (s : State) : KeepsDelays s (readOutcome r ok s) := by
  refine .ite (fun _ => .refl s) fun _ => ?_
  split
  · exact .of_only (restoreFails_only _ s)
  · refine .ite (fun _ => ?_) fun _ => .of_only ((modifySet_only _ _ s).comp (restoreFails_only _ _) (n := [.integrity, .link]))
    refine KeepsDelays.trans ?_ (recordTransition_keepsDelays _ _ _ _)
    exact clearFault_keepsDelays _ _

theorem completeRead_keepsDelays (ok : Bool) (s : State) : KeepsDelays s (completeRead ok s) := by
  unfold completeRead
  split
  · exact .refl s
  · refine KeepsDelays.trans ?_ (.of_only (grantNext_only _))
    exact readOutcome_keepsDelays _ _ _

theorem writeSet_keepsDelays (byHost : Bool) (i : Nat) (w : Words) (s : State) : KeepsDelays s (writeSet byHost i w s) := by
  unfold writeSet leaveForGood
  split
  · exact ⟨rfl, rfl⟩
  · refine KeepsDelays.trans ?_ (recordTransition_keepsDelays _ _ _ _)
    exact clearFault_keepsDelays _ _
  · refine KeepsDelays.trans (KeepsDelays.trans ?_ (clearFault_keepsDelays _ _)) (recordTransition_keepsDelays _ _ _ _)
    exact .of_only ((modifySet_only _ _ s).comp (discardRead_only _ _) (n := [.integrity, .read]))
  · refine KeepsDelays.trans ?_ (recordTransition_keepsDelays _ _ _ _)
    exact clearFault_keepsDelays _ _

theorem writeSets_keepsDelays (byHost : Bool) : ∀ (i : Nat) (l : List Words) (s : State),
    KeepsDelays s (writeSets byHost i l s)
  | _, [], s => .refl s
  | i, w :: rest, s => (writeSet_keepsDelays byHost i w s).trans (writeSets_keepsDelays byHost (i + 1) rest _)

theorem takeReading_keepsDelays (u : Nat) (s : State) : KeepsDelays s (takeReading u s) := by
  have hreasons : KeepsDelays s (supplyReasons s.supply.state (s.supply.take s.tables u).state
      (s.withSupply (s.supply.take s.tables u))) :=
    .ite (fun _ => ⟨rfl, rfl⟩) fun _ => .ite (fun _ => mapOut_keepsDelays (fun o => by exact removeReason_pendingDelay .supply o) _)
      fun _ => .ite (fun _ => mapOut_keepsDelays (fun _ => by rfl) _) fun _ => mapOut_keepsDelays (fun _ => by rfl) _
  exact .ite (fun _ => hreasons) fun _ => hreasons.trans (.of_only (post_only _ _))

theorem rampUnitBoundary_keepsDelays (s : State) : KeepsDelays s (rampUnitBoundary s) := by
  have hmove : ∀ u, KeepsDelays u (moveAll u) := fun u => mapOut_keepsDelays (openFader_pendingDelay _) _
  have hadvance : KeepsDelays (clampApplied s) (advanceDivider (clampApplied s)) :=
    .ite (fun _ => hmove _) fun _ => ⟨rfl, rfl⟩
  exact (hadvance.trans (.of_only (checkDrain_only _ _))).trans (.of_only (checkDrain_only _ _))

theorem routeActs_keepsDelays (b : Tables) (s : State) : KeepsDelays s (routeActs b s) := by
  refine ⟨rfl, ?_⟩
  rw [routeActs, State.withOutput_output, map_zipIdx_map (h := OutChan.pendingDelay)]
  exact fun p => writeEnabled_pendingDelay _ _ _

theorem beginNotice_keepsDelays (s : State) : KeepsDelays s (beginNotice s) := by
  unfold beginNotice
  split
  · exact .refl s
  · exact .ite (fun _ => mapOut_keepsDelays (fun _ => by rfl) _) fun _ => ⟨rfl, rfl⟩

theorem beginNext_keepsDelays (s : State) : KeepsDelays s (beginNext s) :=
  .ite (fun _ => .of_only (beginReply_only s)) fun _ => beginNotice_keepsDelays s

theorem pump_keepsDelays (s : State) : KeepsDelays s (pump s) :=
  .ite (fun _ => .refl s) fun _ => .ite
    (fun _ => .ite (fun _ => beginNotice_keepsDelays _) fun _ =>
      .of_only ((withDraws_only s _).comp (beginReply_only _) (n := [.draws, .link])))
    fun _ => beginNext_keepsDelays s

theorem handleCounters_keepsDelays (p : List Byte) (s : State) : KeepsDelays s (handleCounters p s).state := by
  unfold handleCounters
  split
  · exact .ite (fun _ => mapOut_keepsDelays (fun _ => by rfl) _) fun _ => .refl s
  · exact .refl s

theorem endLoading_keepsDelays (s : State) : KeepsDelays s (endLoading s) := by
  have hpost : ∀ u : State, KeepsDelays u (u.post .ready) := fun u => .of_only (post_only _ u)
  have hrunning : KeepsDelays s ((s.withStartup { s.startup with state := .running }).mapOut
      (OutChan.removeReason .startup)) := mapOut_keepsDelays (removeReason_pendingDelay _) _
  exact .ite (fun _ => hrunning.trans (hpost _)) fun _ => hpost _

/-! ## The invariant (R16, R65) -/

theorem LinesOk.keep {s t : State} (hs : LinesOk s) (h : KeepsDelays s t) : LinesOk t := by
  obtain ⟨hlines, hpending⟩ := h
  refine ⟨hlines ▸ hs.1, fun o ho d hd => ?_⟩
  have hmem : o.pendingDelay ∈ s.output.map (·.pendingDelay) := hpending ▸ List.mem_map_of_mem ho
  obtain ⟨o', ho', he⟩ := List.mem_map.mp hmem
  exact hs.2 o' ho' d (he.trans hd)

theorem LinesOk.of_frame {l : List Block} {s t : State} (hs : LinesOk s) (h : Only l s t)
    (hl : Block.lines ∉ l := by decide) (ho : Block.output ∉ l := by decide) : LinesOk t :=
  hs.keep (.of_only h hl ho)

theorem delayGone_pendingDelay {o : OutChan} {d : Nat} (h : (delayGone o).pendingDelay = some d) :
    o.pendingDelay = some d := by
  cases hdue : delayDue o with
  | none => rwa [delayGone_of_none hdue] at h
  | some x => rw [delayGone_of_due hdue] at h; cases h

theorem applyDelays_linesOk {s : State} (hs : LinesOk s) : LinesOk (applyDelays s) := by
  refine ⟨fun l hl => ?_, fun o ho d hd => ?_⟩
  · obtain ⟨⟨l', c⟩, hmem, rfl⟩ := List.mem_map.mp hl
    dsimp only
    cases hdue : delayDue (s.outChan c) with
    | none => exact hs.1 l' (List.fst_mem_of_mem_zipIdx hmem)
    | some d =>
      have hpending : (s.outChan c).pendingDelay = some d := by
        unfold delayDue at hdue
        split at hdue
        · exact hdue
        · cases hdue
      refine ⟨rfl, ?_⟩
      by_cases hc : c < s.output.length
      · rw [State.outChan, List.getD_eq_getElem _ _ hc] at hpending
        exact hs.2 _ (List.getElem_mem hc) d hpending
      · rw [State.outChan, List.getD_eq_default _ _ (not_lt.mp hc)] at hpending
        cases hpending
  · rw [applyDelays_output] at ho
    obtain ⟨o', ho', rfl⟩ := List.mem_map.mp ho
    exact hs.2 o' ho' d (delayGone_pendingDelay hd)

theorem stepped_keepsDelays (s : State) : KeepsDelays s (stepped s) := by
  have hclosed : KeepsDelays s (s.mapOut (closeFader (s.tables.global .fastSlew))) :=
    mapOut_keepsDelays (fun o => by unfold closeFader; dsimp only; split <;> [split <;> rfl; rfl]) s
  have hpolarity : ∀ u, KeepsDelays u (takePolarity u) := fun u => by
    refine ⟨rfl, ?_⟩
    rw [takePolarity, State.withOutput_output, map_zipIdx_map (h := OutChan.pendingDelay)]
    exact fun _ => rfl
  have hclips : ∀ u, KeepsDelays u (countClips u) := fun u =>
    .ite (fun _ => (mapOut_keepsDelays (fun o => by unfold countClip; split <;> rfl) u).trans (.of_only (post_only _ _)))
      fun _ => .refl u
  exact (hclosed.trans (hpolarity _)).trans (hclips _)

theorem outputBoundary_linesOk {s : State} (hs : LinesOk s) : LinesOk (outputBoundary s) :=
  (applyDelays_linesOk (hs.keep (stepped_keepsDelays s))).keep (mapOut_keepsDelays (fun _ => by rfl) _)

theorem samplePeriod_linesOk {s : State} (p : Ports) (hs : LinesOk s) : LinesOk (samplePeriod p s) := by
  refine ⟨fun l hl => ?_, fun o ho d hd => ?_⟩
  · obtain ⟨r, hr, rfl⟩ := List.mem_map.mp hl
    obtain ⟨c, -, rfl⟩ := List.mem_map.mp hr
    refine ⟨DelayLine.push_wf _ _, ?_⟩
    change (s.line c).applied ≤ 960
    by_cases hc : c < s.lines.length
    · rw [State.line, List.getD_eq_getElem _ _ hc]
      exact (hs.1 _ (List.getElem_mem hc)).2
    · rw [State.line, List.getD_eq_default _ _ (not_lt.mp hc)]
      exact Nat.zero_le _
  · obtain ⟨⟨o', c⟩, hmem, rfl⟩ := List.mem_map.mp ho
    exact hs.2 o' (List.fst_mem_of_mem_zipIdx hmem) d hd

theorem writeDelay_pendingDelay {applied v d : Nat} {o : OutChan} (h : (o.writeDelay applied v).pendingDelay = some d) :
    o.pendingDelay = some d ∨ v = d := by
  unfold OutChan.writeDelay at h
  split at h
  · exact .inl h
  · dsimp only at h
    split at h
    · exact .inr (Option.some.inj h)
    · split at h
      · exact .inr (Option.some.inj h)
      · exact .inr (Option.some.inj h)
    all_goals exact .inr (Option.some.inj h)

/-- A delay change that begins is for a value of the table (R65). -/
theorem delayActs_linesOk {s : State} {first k : Nat} (hs : LinesOk s) (ht : Within 0 960 s.tables.delay) :
    LinesOk (delayActs first k s) := by
  refine ⟨hs.1, fun o ho d hd => ?_⟩
  obtain ⟨⟨o', c⟩, hmem, rfl⟩ := List.mem_map.mp ho
  have ho' := List.fst_mem_of_mem_zipIdx hmem
  dsimp only at hd
  split at hd
  · obtain hd | rfl := writeDelay_pendingDelay hd
    · exact hs.2 o' ho' d hd
    · by_cases hc : c < s.tables.delay.length
      · rw [List.getD_eq_getElem _ _ hc]
        have := (ht _ (List.getElem_mem hc)).2
        omega
      · rw [List.getD_eq_default _ _ (not_lt.mp hc)]
        decide
  · exact hs.2 o' ho' d hd

theorem acceptNums_linesOk {id : TableId} {first k : Nat} {l : List Int} {s : State} (hs : LinesOk s)
    (hl : id = .delay → Within 0 960 l) : LinesOk (acceptNums id first k l s) := by
  have hw : ∀ t, LinesOk (s.withTables t) := fun t => hs.of_frame (withTables_only s t)
  cases id
  case globals =>
    refine LinesOk.of_frame ?_ (trackerActs_only _ _)
    split
    · exact (hw _).of_frame (withRamp_only _ _)
    · exact hw _
  case delay => exact delayActs_linesOk (hw _) (hl rfl)
  all_goals exact hw _

theorem accepted_linesOk {ok : Bool} {x : Status} {s t : State} (hs : LinesOk s) (ht : ok = true → LinesOk t) :
    LinesOk (accepted ok x s t).state := by
  unfold accepted
  split
  · exact ht ‹_›
  · exact hs

theorem writeEntries_linesOk (id : TableId) (first : Nat) (entries : List (List Byte)) {s : State} (hs : LinesOk s) :
    LinesOk (writeEntries id first entries s).state := by
  have hnums : ∀ x l, LinesOk (accepted (numsOk x l) .tableInvalid s (acceptNums x first entries.length l s)).state :=
    fun x l => accepted_linesOk hs fun hok => acceptNums_linesOk hs fun hx => by
      subst hx
      exact (allIn_iff 0 960 l).mp hok
  have hsets : ∀ i l, LinesOk (writeSets true i l s) := fun i l => hs.keep (writeSets_keepsDelays true i l s)
  cases id <;> dsimp only [writeEntries]
  case speedCurve =>
    split
    · exact hs
    · exact accepted_linesOk hs fun _ => hs.of_frame (acceptCurve_only _ s)
  case classes =>
    split
    · exact hs
    · exact hs.of_frame (acceptClasses_only _ s)
  case route =>
    split
    · exact hs
    · exact LinesOk.keep (hs.of_frame (withTables_only s _)) (routeActs_keepsDelays _ _)
  case fixedSets | bassSets | trebleSets => exact accepted_linesOk hs fun _ => hsets _ _
  all_goals exact hnums _ _

theorem handleTableWrite_linesOk (p : List Byte) {s : State} (hs : LinesOk s) : LinesOk (handleTableWrite p s).state := by
  unfold handleTableWrite
  split
  · split
    · exact hs
    · split
      · exact hs
      · split
        · exact hs
        · exact writeEntries_linesOk _ _ _ hs
  · exact hs

theorem writePatch_linesOk {t : PatchTable} {i : Nat} {v : Int} {s : State} (hs : LinesOk s) :
    LinesOk (writePatch t i v s) :=
  acceptNums_linesOk hs fun h => absurd h (by cases t <;> decide)

theorem handlePatchPut_linesOk (p : List Byte) {s : State} (hs : LinesOk s) : LinesOk (handlePatchPut p s).state := by
  unfold handlePatchPut
  split
  · split
    · exact hs
    · dsimp only
      split
      · exact hs
      · split
        · exact hs
        · split
          · exact hs
          · exact (writePatch_linesOk hs).of_frame (withPatches_only _ _)
  · exact hs

theorem placeAllNums_linesOk {f : FactoryImage} (hf : Within 0 960 f.tables.delay) : ∀ (l : List TableId) {s : State},
    LinesOk s → LinesOk (l.foldl (placeNums f) s)
  | [], _, hs => hs
  | id :: l, s, hs => placeAllNums_linesOk hf l (s := placeNums f s id)
    (acceptNums_linesOk hs fun h => by subst h; exact hf)

theorem placeFactory_linesOk {f : FactoryImage} {s : State} (hs : LinesOk s) (hf : Within 0 960 f.tables.delay) :
    LinesOk (placeFactory f s) := by
  refine LinesOk.keep (placeAllNums_linesOk hf _ ?_) (writeSets_keepsDelays _ _ _ _)
  have hlevels := placeAllNums_linesOk hf [.volume, .annVolume, .balance, .fade] hs
  have hclasses := (hlevels.of_frame (acceptCurve_only f.tables.speedCurve _)).of_frame
    (acceptClasses_only f.tables.classes _)
  exact LinesOk.keep (hclasses.of_frame (withTables_only _ _)) (routeActs_keepsDelays _ _)

theorem applyPatches_linesOk : ∀ (l : List PatchRec) {s : State}, LinesOk s → LinesOk (l.foldl applyPatch s)
  | [], _, hs => hs
  | r :: l, s, hs => by
    refine applyPatches_linesOk l ?_
    unfold applyPatch
    split
    · exact writePatch_linesOk hs
    · exact hs.of_frame (withStartup_only s _)

theorem placePatches_linesOk {s : State} (hs : LinesOk s) : LinesOk (placePatches s) := by
  unfold placePatches
  dsimp only
  split
  · exact applyPatches_linesOk _ ((hs.of_frame (withPatches_only s _)).of_frame (withStartup_only _ _))
  · exact (hs.of_frame (withPatches_only s _)).of_frame (withStartup_only _ _)

theorem completeLoad_linesOk {s : State} (ht : TablesOk s) (hs : LinesOk s) : LinesOk (completeLoad s) := by
  unfold completeLoad
  split
  · have hfreed : LinesOk (s.withStore { s.store with running := none }) := hs.of_frame (withStore_only s _)
    refine LinesOk.of_frame (LinesOk.keep (LinesOk.of_frame ?_ (placeScene_only _)) (endLoading_keepsDelays _))
      (grantNext_only _)
    have htabled : LinesOk (if s.store.factoryState = .valid then
        placeFactory s.store.factory (s.withStore { s.store with running := none })
        else s.withStore { s.store with running := none }) := by
      split
      · rename_i hv
        exact placeFactory_linesOk hfreed ((ht.store.contents hv).2.1 .delay (by decide))
      · exact hfreed
    exact placePatches_linesOk htabled
  · exact hs

theorem effect_linesOk (c : Instr) {s : State} (ht : TablesOk s) (hs : LinesOk s) : LinesOk (effect c s) := by
  have request : ∀ {kind tag lengthOk ready} {handle : State → Handled},
      (∀ s, LinesOk s → LinesOk (handle s).state) → LinesOk (taken kind tag lengthOk ready handle s) :=
    fun hh => taken_keeps (fun s _ h => h.of_frame (withLink_only s _)) hh hs _ _ _ _
  have ite : ∀ {t : State} {p : Prop} [Decidable p], LinesOk t → LinesOk (if p then t else s) := fun h => by
    split
    · exact h
    · exact hs
  have hf := effect_only c s
  cases c
  all_goals dsimp only [touches] at hf
  case tableWrite => exact request fun s h => handleTableWrite_linesOk _ h
  case patchPut => exact request fun s h => handlePatchPut_linesOk _ h
  case counters => exact request fun s h => h.keep (handleCounters_keepsDelays _ s)
  case rampBoundary => exact hs.keep (rampUnitBoundary_keepsDelays s)
  case rampStep => exact ite (hs.keep (rampUnitBoundary_keepsDelays s))
  case outputStageStep => exact outputBoundary_linesOk hs
  case applyDelay => exact applyDelays_linesOk hs
  case eqBoundary => exact hs.keep (eqBoundary_keepsDelays s)
  case scannerCheck => exact hs.keep ((examine_keepsDelays _ s).trans ⟨rfl, rfl⟩)
  case readSetComplete ok => exact hs.keep (completeRead_keepsDelays ok s)
  case supplyReading => exact hs.keep (takeReading_keepsDelays _ s)
  case runComplete => exact ite (hs.keep (takeReading_keepsDelays _ s))
  case settleComplete => exact ite (hs.keep (takeReading_keepsDelays _ s))
  case loadComplete => exact completeLoad_linesOk ht hs
  case samplePeriod p => exact samplePeriod_linesOk p hs
  all_goals exact hs.of_frame hf

theorem frameSent_linesOk {s : State} (hs : LinesOk s) : LinesOk (frameSent s) := by
  unfold frameSent
  split
  · exact hs
  · split
    · exact hs.of_frame (enterReset_only _ s)
    · exact (hs.of_frame (withLink_only s _)).keep (beginNext_keepsDelays _)

theorem release_linesOk (e : Hold) (s : State) : LinesOk (release e s) := by
  refine ⟨fun l hl => ?_, fun o ho d hd => ?_⟩
  · obtain rfl := List.eq_of_mem_replicate hl
    exact ⟨rfl, Nat.zero_le _⟩
  · obtain rfl := List.eq_of_mem_replicate ho
    cases hd

/-- Settles O15, together with O6's invariant: the delays that LOAD places are those of a valid region. -/
theorem delayLinesStayInRange : Obligations.DelayLinesStayInRange := by
  intro s t ht hs h
  refine (step_keeps (P := fun s => TablesOk s ∧ LinesOk s) ?_ ?_ ?_ (fun c s t hs h => ?_) ⟨ht, hs⟩ h).2
  · exact fun s _ h => ⟨h.1.of_frame (withPending_only s _), h.2.of_frame (withPending_only s _)⟩
  · exact fun s _ h => h
  · exact fun s _ h => ⟨h.1.of_frame (withLink_only s _), h.2.of_frame (withLink_only s _)⟩
  · refine exec_keeps (P := fun s => TablesOk s ∧ LinesOk s) (fun c s _ h => ?_) (fun s h => ?_) (fun e s h => ?_)
      (fun s h => ?_) (fun e s h => ?_) (fun e s h => ?_) (fun i f s h => ?_) hs h
    · exact ⟨(effect_tablesOk c h.1).of_frame (pump_only _), (effect_linesOk c h.1 h.2).keep (pump_keepsDelays _)⟩
    · exact ⟨frameSent_tablesOk h.1, frameSent_linesOk h.2⟩
    · exact ⟨enterReset_tablesOk e h.1, h.2.of_frame (enterReset_only e s)⟩
    · exact ⟨losePower_tablesOk h.1, h.2.of_frame (losePower_only s)⟩
    · exact ⟨h.1.of_frame (withHold_only s _), h.2.of_frame (withHold_only s _)⟩
    · exact ⟨release_tablesOk e h.1, release_linesOk e s⟩
    · exact ⟨damageStored_tablesOk i f h.1, h.2.of_frame (withStore_only s _)⟩

end Sys2Proof
end

section
/-! SUPPORT. TABLE_WRITE: which handling a payload reaches, what the owners do with an accepted write, and the statements on it. -/

set_option Elab.async false

namespace Sys2Proof

open Sys2Proof.Machine

/-! ## Requests -/

/-- A request whose owner refuses it is refused with the owner's status. -/
theorem request_refused {s : State} (h : Handles s) {kind tag : Byte} {ready : Bool} {handle : State → Handled}
    {x : Status} (hx : handle (frameTaken s) = Handled.refuse (frameTaken s) x) :
    ∃ t, request kind tag true ready handle s = .next t ∧ Refused s t kind tag x := by
  obtain ⟨ha, hr, hl⟩ := h
  obtain ⟨t, ht, ho, hs⟩ := request_sends ha hr (kind := kind) (tag := tag) (ready := ready) (handle := handle) (ns := [])
    (fun _ => hl) (by rw [hx]; simp [Handled.refuse, afterFrame]) (by decide)
  rw [hx] at ho hs
  exact ⟨t, ht, (frameTaken_only s).comp ho, hs⟩

/-- A request whose owner answers OK without content, having touched the blocks `l` and posted `ns`. -/
theorem request_done {s : State} (h : Handles s) {kind tag : Byte} {ready : Bool} {handle : State → Handled} {u : State}
    {ns : List Notice} (hu : handle (frameTaken s) = Handled.done u)
    (hlink : u.link = { afterFrame s.link with notices := s.link.notices ++ ns.filter fun n => n ∉ s.link.notices })
    (hc : Notice.clip ∉ ns) :
    ∃ t, request kind tag true ready handle s = .next t ∧ Only [.link, .draws] u t ∧ Replies s t kind tag .ok [] ns := by
  obtain ⟨ha, hr, hl⟩ := h
  obtain ⟨t, ht, ho, hs⟩ := request_sends ha hr (kind := kind) (tag := tag) (ready := ready) (handle := handle) (ns := ns)
    (fun _ => hl) (by rw [hu]; exact hlink) hc
  rw [hu] at ho hs
  exact ⟨t, ht, ho, hs⟩

theorem exec_tableWrite {tag : Byte} {p : List Byte} (h : 4 ≤ p.length ∧ p.length ≤ 248) (s : State) :
    exec (.tableWrite tag p) s = request 0x07 tag true true (handleTableWrite p) s := by
  have hlen : (decide (4 ≤ p.length) && decide (p.length ≤ 248)) = true := by simp [h]
  change request 0x07 tag (decide (4 ≤ p.length) && decide (p.length ≤ 248)) true (handleTableWrite p) s = _
  rw [hlen]

/-! ## Which handling a payload reaches (R187) -/

theorem handleTableWrite_badId {code hi lo : Byte} {rest : List Byte} (h : TableId.ofCode code.toNat = none) (s : State) :
    handleTableWrite (code :: hi :: lo :: rest) s = Handled.refuse s .badId := by
  simp only [handleTableWrite, h]

theorem handleTableWrite_badLength {code hi lo : Byte} {rest : List Byte} {id : TableId}
    (h : TableId.ofCode code.toNat = some id) (hlen : rest.length % id.entryBytes ≠ 0) (s : State) :
    handleTableWrite (code :: hi :: lo :: rest) s = Handled.refuse s .badLength := by
  simp only [handleTableWrite, h]
  rw [if_pos (.inr hlen)]

theorem handleTableWrite_badRange {code hi lo : Byte} {rest : List Byte} {id : TableId}
    (h : TableId.ofCode code.toNat = some id) (hne : rest ≠ []) (hlen : rest.length % id.entryBytes = 0)
    (hr : id.entries < u16 hi lo + rest.length / id.entryBytes) (s : State) :
    handleTableWrite (code :: hi :: lo :: rest) s = Handled.refuse s .badRange := by
  simp only [handleTableWrite, h]
  rw [if_neg (by simp [hne, hlen]), if_pos hr]

/-- Entries of the right size that lie inside the table are written. -/
theorem handleTableWrite_entries {code hi lo : Byte} {id : TableId} {entries : List (List Byte)}
    (h : TableId.ofCode code.toNat = some id) (hne : entries ≠ []) (he : ∀ e ∈ entries, e.length = id.entryBytes)
    (hr : u16 hi lo + entries.length ≤ id.entries) (s : State) :
    handleTableWrite (code :: hi :: lo :: entries.flatten) s = writeEntries id (u16 hi lo) entries s := by
  have hb := entryBytes_pos id
  have hlen := length_flatten_of_forall he
  have hpos : 0 < entries.flatten.length := by
    rw [hlen]
    exact Nat.mul_pos (List.length_pos_iff.mpr hne) hb
  simp only [handleTableWrite, h]
  rw [if_neg (by rw [hlen]; simp [List.ne_nil_of_length_pos hpos]), hlen, Nat.mul_div_cancel _ hb,
    if_neg (not_lt.mpr hr), chunks_flatten hb he]

/-- The lengths of a TABLE_WRITE of such entries (R180). -/
theorem tableWrite_length {code hi lo : Byte} {n : Nat} {entries : List (List Byte)} (hn : 0 < n) (hne : entries ≠ [])
    (he : ∀ e ∈ entries, e.length = n) (hmax : entries.length * n ≤ 245) :
    4 ≤ (code :: hi :: lo :: entries.flatten).length ∧ (code :: hi :: lo :: entries.flatten).length ≤ 248 := by
  have hlen := length_flatten_of_forall he
  have : 0 < entries.length * n := Nat.mul_pos (List.length_pos_iff.mpr hne) hn
  simp only [List.length_cons]
  omega

theorem writeEntries_nums {id : TableId} (hid : id ∈ numberTables) (first : Nat) (entries : List (List Byte)) (s : State) :
    writeEntries id first entries s =
      let l := splice (s.tables.nums id) first (entries.map numOfBytes)
      accepted (numsOk id l) .tableInvalid s (acceptNums id first entries.length l s) := by
  cases id
  case speedCurve | classes | route | fixedSets | bassSets | trebleSets => exact absurd hid (by decide)
  all_goals rfl

/-- A table of numbers after a write, entry by entry. -/
theorem splice_nums_eq {t : Tables} (ht : TablesValid t) {id : TableId} (hid : id ∈ numberTables) {first : Nat}
    {entries : List (List Byte)} (hr : first + entries.length ≤ id.entries) :
    splice (t.nums id) first (entries.map numOfBytes) = (List.range id.entries).map fun i =>
      if first ≤ i ∧ i < first + entries.length then numOfBytes (entries.getD (i - first) []) else (t.nums id).getD i 0 := by
  rw [splice_eq_range (ht.1.1 id hid) (by rwa [List.length_map]) 0, List.length_map]
  refine List.map_congr_left fun i _ => ?_
  rw [show (0 : Int) = numOfBytes [] from rfl, List.getD_map]

theorem accepted_of_true {ok : Bool} (h : ok = true) (x : Status) (s t : State) : accepted ok x s t = Handled.done t := by
  rw [accepted, h]; rfl

theorem accepted_of_false {ok : Bool} (h : ok = false) (x : Status) (s t : State) :
    accepted ok x s t = Handled.refuse s x := by
  rw [accepted, h]; rfl

/-- A write of numbers reaches its owner's check on the whole table: taken where the table that results meets the constraint, and
refused whole where it does not (R9, R34, R187). -/
theorem handleTableWrite_nums {code hi lo : Byte} {id : TableId} {entries : List (List Byte)} {s : State}
    (ht : TablesValid s.tables) (h : TableId.ofCode code.toNat = some id) (hid : id ∈ numberTables) (hne : entries ≠ [])
    (he : ∀ e ∈ entries, e.length = id.entryBytes) (hr : u16 hi lo + entries.length ≤ id.entries) {table : List Int}
    (htable : splice (s.tables.nums id) (u16 hi lo) (entries.map numOfBytes) = table) :
    handleTableWrite (code :: hi :: lo :: entries.flatten) s =
      accepted (numsOk id table) .tableInvalid s (acceptNums id (u16 hi lo) entries.length table s) ∧
      (numsOk id table = true ↔ NumbersMeet id table) := by
  refine ⟨?_, numsOk_iff id ?_⟩
  · rw [handleTableWrite_entries h hne he hr, writeEntries_nums hid, htable]
  · have hlen := ht.1.1 id hid
    rw [← htable, splice_length (by rwa [hlen, List.length_map]), hlen]

theorem acceptNums_plain {id : TableId}
    (hid : id ∈ [TableId.volume, .annVolume, .balance, .fade, .trim, .ceiling, .annTrim, .sdvWeight]) (first k : Nat)
    (l : List Int) (s : State) : acceptNums id first k l s = s.withTables (s.tables.putNums id l) := by
  cases id
  case speedCurve | classes | route | fixedSets | bassSets | trebleSets | delay | globals => exact absurd hid (by decide)
  all_goals rfl

/-- Settles O45: the refusals in the order of R187, and the owner's check on the whole table. -/
theorem numberTablesWrittenWhole : Obligations.NumberTablesWrittenWhole := by
  refine ⟨fun tag code hi lo rest s h hpos hmax => ?_, fun tag code hi lo id entries s h ht hcode hid hne he hmax hr => ?_⟩
  · have hx := exec_tableWrite (tag := tag) (p := code :: hi :: lo :: rest) (by simp only [List.length_cons]; omega) s
    have hne : rest ≠ [] := List.ne_nil_of_length_pos hpos
    rw [hx]
    cases hcode : TableId.ofCode code.toNat with
    | none => exact request_refused h (handleTableWrite_badId hcode _)
    | some id =>
      by_cases hlen : rest.length % id.entryBytes = 0
      · by_cases hr : id.entries < hi.toNat * 256 + lo.toNat + rest.length / id.entryBytes
        · obtain ⟨t, ht, href⟩ := request_refused h (kind := 0x07) (tag := tag) (ready := true)
            (handleTableWrite_badRange (lo := lo) hcode hne hlen hr _)
          exact ⟨t, ht, fun hbad => absurd hlen hbad, fun _ _ => href⟩
        · exact ⟨_, event_next h.1.1 _, fun hbad => absurd hlen hbad, fun _ hbad => absurd hbad hr⟩
      · obtain ⟨t, ht, href⟩ := request_refused h (kind := 0x07) (tag := tag) (ready := true)
          (handleTableWrite_badLength (hi := hi) (lo := lo) hcode hlen _)
        exact ⟨t, ht, fun _ => href, fun hgood => absurd hgood hlen⟩
  · have hnum : id ∈ numberTables := by
      revert hid
      cases id <;> decide
    rw [exec_tableWrite (tableWrite_length (entryBytes_pos id) hne he hmax)]
    obtain ⟨hhandle, hok⟩ := handleTableWrite_nums (s := frameTaken s) ht.1 hcode hnum hne he hr
      (splice_nums_eq ht.1 hnum hr)
    dsimp only
    by_cases hm : NumbersMeet id ((List.range id.entries).map fun i =>
        if u16 hi lo ≤ i ∧ i < u16 hi lo + entries.length then numOfBytes (entries.getD (i - u16 hi lo) [])
        else (s.tables.nums id).getD i 0)
    · rw [accepted_of_true (hok.mpr hm), acceptNums_plain hid] at hhandle
      obtain ⟨t, hx, ho, hreply⟩ := request_done h (kind := 0x07) (tag := tag) (ready := true) (ns := []) hhandle
        (by simp [afterFrame]) (by decide)
      refine ⟨t, hx, fun _ => ⟨?_, ho.tables, hreply⟩, fun hbad => absurd hm hbad⟩
      exact ((frameTaken_only s).comp (withTables_only _ _) (n := [.tables, .link])).comp ho
    · rw [accepted_of_false (Bool.eq_false_iff.mpr fun h => hm (hok.mp h))] at hhandle
      obtain ⟨t, hx, href⟩ := request_refused h (kind := 0x07) (tag := tag) (ready := true) hhandle
      exact ⟨t, hx, fun hgood => absurd hgood hm, fun _ => href⟩

end Sys2Proof
end

section
/-! SUPPORT. What the owners of GLOBALS and CH_DELAY do with an accepted write. -/

set_option Elab.async false

namespace Sys2Proof

open Sys2Proof.Machine

/-! ## The tracker after GLOBALS has changed (R83, R84, R91) -/

theorem recompute_tracker (s : State) : (recompute s).tracker = derived s.tables s.planner.live s.tracker := rfl

/-- The tracker as a change of SPEED_SOURCE leaves it, before any recomputation (R83, R84). -/
def switchedTracker (was now : Tables) (m : Tracker) : Tracker :=
  if now.global .speedSource ≠ was.global .speedSource then
    if now.global .speedSource = 1 then { m with state := .pulse, windowFrames := 0, windowPulses := 0 }
    else { m with state := .stale, staleCount := 0 }
  else m

theorem pulseSource_iff (s : State) : pulseSource s = true ↔ s.tables.global .speedSource = 1 := decide_eq_true_iff

/-- The state between the switch and the recomputation. -/
def switchedState (before : Tables) (s : State) : State :=
  if s.tables.global .speedSource = before.global .speedSource then s
  else if pulseSource s then switchToPulse s else switchToReport s

theorem trackerActs_eq (before : Tables) (s : State) :
    trackerActs before s = if s.tables.global .sdvBassDiv = before.global .sdvBassDiv then switchedState before s
      else recompute (switchedState before s) := rfl

theorem switchedState_only (before : Tables) (s : State) : Only [.tracker, .link] s (switchedState before s) :=
  Only.ite (fun _ => .refl _ s) fun _ => Only.ite (fun _ => (withTracker_only s _).comp (post_only _ _)) fun _ =>
    (withTracker_only s _).comp (post_only _ _)

theorem switchedState_tracker (before : Tables) (s : State) :
    (switchedState before s).tracker = switchedTracker before s.tables s.tracker := by
  unfold switchedState switchedTracker
  by_cases hsame : s.tables.global .speedSource = before.global .speedSource
  · rw [if_pos hsame, if_neg (not_not.mpr hsame)]
  · rw [if_neg hsame, if_pos hsame]
    simp only [pulseSource_iff]
    split
    · exact (post_only _ _).tracker
    · exact (post_only _ _).tracker

/-- A switch posts SPEED_STATE, and nothing else is posted. -/
theorem switchedState_link (before : Tables) (s : State) :
    (switchedState before s).link = { s.link with
      notices := s.link.notices ++
        (if s.tables.global .speedSource ≠ before.global .speedSource then [Notice.speedState] else []).filter
          fun n => n ∉ s.link.notices } := by
  unfold switchedState
  by_cases hsame : s.tables.global .speedSource = before.global .speedSource
  · simp [hsame]
  · rw [if_neg hsame, if_pos hsame]
    split <;> exact post_link _ _

theorem trackerActs_tracker (before : Tables) (s : State) :
    (trackerActs before s).tracker =
      if s.tables.global .sdvBassDiv = before.global .sdvBassDiv then switchedTracker before s.tables s.tracker
      else derived s.tables s.planner.live (switchedTracker before s.tables s.tracker) := by
  have h := switchedState_only before s
  rw [trackerActs_eq, ← switchedState_tracker]
  split
  · rfl
  · rw [recompute_tracker, h.tables, h.planner]

theorem trackerActs_link (before : Tables) (s : State) :
    (trackerActs before s).link = { s.link with
      notices := s.link.notices ++
        (if s.tables.global .speedSource ≠ before.global .speedSource then [Notice.speedState] else []).filter
          fun n => n ∉ s.link.notices } := by
  rw [← switchedState_link, trackerActs_eq]
  split
  · rfl
  · exact (recompute_only _).link

/-- GLOBALS replaced, and the divider counter reset if the write carries RAMP_DIVIDER (R52). -/
def writtenGlobals (first k : Nat) (l : List Int) (s : State) : State :=
  let written := s.withTables { s.tables with globals := l }
  if first ≤ 1 ∧ 1 < first + k then written.withRamp { s.ramp with divider := 0 } else written

theorem acceptNums_globals (first k : Nat) (l : List Int) (s : State) :
    acceptNums .globals first k l s = trackerActs s.tables (writtenGlobals first k l s) := rfl

theorem writtenGlobals_only (first k : Nat) (l : List Int) (s : State) :
    Only [.tables, .ramp] s (writtenGlobals first k l s) :=
  Only.ite (fun _ => (withTables_only s _).comp (withRamp_only _ _)) fun _ => (withTables_only s _).mono (by decide)

theorem writtenGlobals_tables (first k : Nat) (l : List Int) (s : State) :
    (writtenGlobals first k l s).tables = { s.tables with globals := l } := by
  unfold writtenGlobals; dsimp only; split <;> rfl

theorem writtenGlobals_ramp (first k : Nat) (l : List Int) (s : State) :
    (writtenGlobals first k l s).ramp = if first ≤ 1 ∧ 1 < first + k then { s.ramp with divider := 0 } else s.ramp := by
  unfold writtenGlobals; dsimp only; split <;> rfl

/-- What an accepted write of GLOBALS does at once (R52, R83, R84, R91). -/
theorem acceptNums_globals_acts (first k : Nat) (l : List Int) (s : State) :
    let u := acceptNums .globals first k l s
    let switches := u.tables.global .speedSource ≠ s.tables.global .speedSource
    Only [.tables, .ramp, .tracker, .link] s u ∧ u.tables = { s.tables with globals := l } ∧
      u.ramp = (if first ≤ 1 ∧ 1 < first + k then { s.ramp with divider := 0 } else s.ramp) ∧
      u.tracker = (if u.tables.global .sdvBassDiv = s.tables.global .sdvBassDiv then
          switchedTracker s.tables u.tables s.tracker
        else derived u.tables s.planner.live (switchedTracker s.tables u.tables s.tracker)) ∧
      u.link = { s.link with notices := s.link.notices ++
        (if switches then [Notice.speedState] else []).filter fun n => n ∉ s.link.notices } := by
  have hw := writtenGlobals_only first k l s
  have ha := trackerActs_only s.tables (writtenGlobals first k l s)
  dsimp only
  rw [acceptNums_globals]
  refine ⟨hw.comp ha, ha.tables.trans (writtenGlobals_tables _ _ _ _), ha.ramp.trans (writtenGlobals_ramp _ _ _ _), ?_, ?_⟩
  · rw [trackerActs_tracker, ha.tables, hw.planner, hw.tracker]
  · rw [trackerActs_link, ha.tables, hw.link]

/-! ## Delay changes (R65, R66) -/

theorem acceptNums_delay (first k : Nat) (l : List Int) (s : State) :
    acceptNums .delay first k l s = delayActs first k (s.withTables { s.tables with delay := l }) := rfl

theorem delayActs_outChan {s : State} {c : Nat} (h : c < s.output.length) (first k : Nat) :
    (delayActs first k s).outChan c =
      if first ≤ c ∧ c < first + k then (s.outChan c).writeDelay (s.line c).applied (s.tables.delay.getD c 0).toNat
      else s.outChan c := getD_zipIdx_map h _ OutChan.reset _

/-- A CH_DELAY write on one channel: none, a change behind a fader that is CLOSED or closing for DISABLED, or a change that closes
the fader with DELAY (R65, R66). -/
theorem writeDelay_eq (applied v : Nat) (o : OutChan) :
    o.writeDelay applied v =
      if o.pendingDelay = none ∧ v = applied then o
      else
        let p := { o with pendingDelay := some v }
        if o.fader.state = .closed ∨ (o.fader.state = .closing ∧ o.fader.reasons.disabled = true) then p
        else p.addReason .delay := by
  unfold OutChan.writeDelay
  split
  · rfl
  · cases hf : o.fader.state <;> simp

/-- An unwritten channel and a write that changes nothing leave the channel alike. -/
theorem writeDelay_or (w : Prop) [Decidable w] (applied v : Nat) (o : OutChan) :
    (if ¬w ∨ (o.pendingDelay = none ∧ v = applied) then o
      else if o.fader.state = .closed ∨ (o.fader.state = .closing ∧ o.fader.reasons.disabled = true) then
        { o with pendingDelay := some v }
      else { o with pendingDelay := some v }.addReason .delay) = if w then o.writeDelay applied v else o := by
  by_cases h : w
  · simp [h, writeDelay_eq]
  · simp [h]

/-! ## The two statements' writes -/

/-- The entries of two bytes that a payload carries. -/
def pairEntries (values : List (Byte × Byte)) : List (List Byte) := values.map fun p => [p.1, p.2]

theorem pairEntries_length (values : List (Byte × Byte)) : (pairEntries values).length = values.length := List.length_map _

theorem pairEntries_flatten (values : List (Byte × Byte)) :
    (pairEntries values).flatten = values.flatMap fun p => [p.1, p.2] := rfl

theorem pairEntries_size {values : List (Byte × Byte)} : ∀ e ∈ pairEntries values, e.length = 2 := by
  intro e he
  obtain ⟨p, -, rfl⟩ := List.mem_map.mp he
  rfl

/-- The table that a write of two-byte entries makes, entry by entry. -/
def pairTable (t : Tables) (id : TableId) (first : Nat) (values : List (Byte × Byte)) : List Int :=
  (List.range id.entries).map fun i =>
    if first ≤ i ∧ i < first + values.length then
      ((values.getD (i - first) (0, 0)).1 ++ (values.getD (i - first) (0, 0)).2).toInt
    else (t.nums id).getD i 0

theorem splice_pairEntries {t : Tables} (ht : TablesValid t) {id : TableId} (hid : id ∈ numberTables) {first : Nat}
    {values : List (Byte × Byte)} (hr : first + values.length ≤ id.entries) :
    splice (t.nums id) first ((pairEntries values).map numOfBytes) = pairTable t id first values := by
  unfold pairTable
  have hv : (pairEntries values).map numOfBytes = values.map fun p => (p.1 ++ p.2).toInt := List.map_map
  rw [hv, splice_eq_range (ht.1.1 id hid) (by rwa [List.length_map]) 0, List.length_map]
  refine List.map_congr_left fun i _ => ?_
  rw [show (0 : Int) = (((0 : Byte), (0 : Byte)).1 ++ ((0 : Byte), (0 : Byte)).2).toInt by decide,
    List.getD_map (f := fun p : Byte × Byte => (p.1 ++ p.2).toInt)]

/-- A write of two-byte entries that its owner takes, or refuses. -/
theorem tableWrite_pairs {s : State} (h : Handles s) (ht : TablesOk s) {tag code hi lo : Byte} {id : TableId}
    {values : List (Byte × Byte)} (hcode : TableId.ofCode code.toNat = some id) (hid : id ∈ numberTables)
    (hbytes : id.entryBytes = 2) (hne : values ≠ []) (hr : u16 hi lo + values.length ≤ id.entries)
    (hmax : id.entries ≤ 122) {u : State} {ns : List Notice}
    (hu : acceptNums id (u16 hi lo) values.length (pairTable s.tables id (u16 hi lo) values) (frameTaken s) = u)
    (hlink : u.link = { afterFrame s.link with notices := s.link.notices ++ ns.filter fun n => n ∉ s.link.notices })
    (hc : Notice.clip ∉ ns) :
    ∃ t, exec (.tableWrite tag (code :: hi :: lo :: values.flatMap fun p => [p.1, p.2])) s = .next t ∧
      (¬NumbersMeet id (pairTable s.tables id (u16 hi lo) values) → Refused s t 0x07 tag .tableInvalid) ∧
      (NumbersMeet id (pairTable s.tables id (u16 hi lo) values) →
        Only [.link, .draws] u t ∧ Replies s t 0x07 tag .ok [] ns) := by
  have hne' : pairEntries values ≠ [] := fun e => hne (List.map_eq_nil_iff.mp e)
  have hsize : ∀ e ∈ pairEntries values, e.length = id.entryBytes := hbytes ▸ pairEntries_size
  obtain ⟨hhandle, hok⟩ := handleTableWrite_nums (s := frameTaken s) ht.1 hcode hid hne' hsize
    (by rwa [pairEntries_length]) (splice_pairEntries ht.1 hid hr)
  rw [← pairEntries_flatten, exec_tableWrite (tableWrite_length (entryBytes_pos id) hne' hsize
    (by rw [pairEntries_length, hbytes]; omega))]
  rw [pairEntries_length, hu] at hhandle
  by_cases hm : NumbersMeet id (pairTable s.tables id (u16 hi lo) values)
  · rw [accepted_of_true (hok.mpr hm)] at hhandle
    obtain ⟨t, hx, ho, hreply⟩ := request_done h (kind := 0x07) (tag := tag) (ready := true) hhandle hlink hc
    exact ⟨t, hx, fun hbad => absurd hm hbad, fun _ => ⟨ho, hreply⟩⟩
  · rw [accepted_of_false (Bool.eq_false_iff.mpr fun h => hm (hok.mp h))] at hhandle
    obtain ⟨t, hx, href⟩ := request_refused h (kind := 0x07) (tag := tag) (ready := true) hhandle
    exact ⟨t, hx, fun _ => href, fun hgood => absurd hgood hm⟩

/-- Settles O46: what the owner's check leaves open is what the owners of GLOBALS and CH_DELAY do at once. -/
theorem globalsAndDelayWritesAct : Obligations.GlobalsAndDelayWritesAct := by
  intro tag hi lo values s h ht hne
  refine ⟨fun hr => ?_, fun hshape hr => ?_⟩
  · obtain ⟨ha, htables, hramp, htracker, hlink⟩ :=
      acceptNums_globals_acts (u16 hi lo) values.length (pairTable s.tables .globals (u16 hi lo) values) (frameTaken s)
    obtain ⟨t, hx, hbad, hgood⟩ := tableWrite_pairs h ht (tag := tag) (code := 13) (id := .globals) rfl (by decide) rfl hne
      hr (by decide) rfl hlink (by split <;> decide)
    refine ⟨t, hx, hbad, fun hm => ?_⟩
    obtain ⟨ho, hreply⟩ := hgood hm
    rw [← ho.tables] at htracker hreply
    exact ⟨((frameTaken_only s).comp ha (n := [.tables, .ramp, .tracker, .link])).comp ho, ho.tables.trans htables,
      ho.ramp.trans hramp, ho.tracker.trans htracker, hreply⟩
  · obtain ⟨t, hx, hbad, hgood⟩ := tableWrite_pairs h ht (tag := tag) (code := 12) (id := .delay) (ns := []) rfl (by decide)
      rfl hne hr (by decide) rfl (by simp [acceptNums_delay, delayActs, afterFrame]) (by decide)
    refine ⟨t, hx, ?_⟩
    dsimp only
    split
    next hm =>
      obtain ⟨ho, hreply⟩ := hgood hm
      refine ⟨?_, ho.tables, hreply, fun c hc => ?_⟩
      · exact (((frameTaken_only s).comp (withTables_only _ _) (n := [.tables, .link])).comp (delayActs_only _ _ _)
          (n := [.tables, .output, .link])).comp ho
      · rw [ho.outChan, ho.tables, writeDelay_or]
        exact delayActs_outChan (s := (frameTaken s).withTables { s.tables with delay := _ })
          (hc.trans_eq hshape.2.1.2.2.1.symm) _ _
    next hm => exact hbad hm

end Sys2Proof
end

section
/-! SUPPORT. Writes of the tables of records, and what their owners do with one that is accepted. -/

set_option Elab.async false

namespace Sys2Proof

open Sys2Proof.Machine

/-! ## Entries read -/

section
variable {n : Nat} {ρ : Type} {f : List Byte → Option ρ} {R : Vector Byte n → ρ → Prop}

theorem mapM_toList_iff (hf : ∀ b r, f b.toList = some r ↔ R b r) {bs : List (Vector Byte n)} {rs : List ρ} :
    (bs.map Vector.toList).mapM f = some rs ↔ List.Forall₂ R bs rs := by
  rw [mapM_eq_some_iff, List.forall₂_map_left_iff]
  simp only [hf]

theorem not_forall₂_of_unread {bs : List (Vector Byte n)} {rs : List ρ} (hb : ∃ b ∈ bs, ∀ r, ¬R b r) :
    ¬List.Forall₂ R bs rs := by
  obtain ⟨b, hmem, hno⟩ := hb
  intro h
  obtain ⟨r, -, hr⟩ := mem_of_forall₂ h.flip hmem
  exact hno r hr

/-- A write of records that lie inside their table: refused whole where an entry cannot be read, and otherwise what the owner of
the table makes of it. -/
theorem tableWrite_records (hf : ∀ b r, f b.toList = some r ↔ R b r) {s : State} (h : Handles s) {tag code hi lo : Byte}
    {id : TableId} {bs : List (Vector Byte n)} (hcode : TableId.ofCode code.toNat = some id) (hbytes : id.entryBytes = n)
    (hne : bs ≠ []) (hr : u16 hi lo + bs.length ≤ id.entries) (hmax : id.entries * n ≤ 245)
    {accept : List ρ → State → Handled}
    (hw : ∀ es s, writeEntries id (u16 hi lo) es s = (es.mapM f).elim (Handled.refuse s .tableInvalid) (accept · s))
    {P : List ρ → State → Prop}
    (hacc : ∀ rs, List.Forall₂ R bs rs → ∀ handle : State → Handled, handle (frameTaken s) = accept rs (frameTaken s) →
      ∃ t, request 0x07 tag true true handle s = .next t ∧ P rs t) :
    ∃ t, exec (.tableWrite tag (code :: hi :: lo :: bs.flatMap Vector.toList)) s = .next t ∧
      ((∃ b ∈ bs, ∀ r, ¬R b r) → Refused s t 0x07 tag .tableInvalid) ∧ ∀ rs, List.Forall₂ R bs rs → P rs t := by
  have hne' : bs.map Vector.toList ≠ [] := fun e => hne (List.map_eq_nil_iff.mp e)
  have hsize : ∀ e ∈ bs.map Vector.toList, e.length = id.entryBytes := by
    intro e he
    obtain ⟨b, -, rfl⟩ := List.mem_map.mp he
    rw [hbytes, Vector.length_toList]
  have hlen : (bs.map Vector.toList).length * id.entryBytes ≤ 245 := by
    rw [List.length_map, hbytes]
    exact (Nat.mul_le_mul_right n (by omega)).trans hmax
  have hhandle := handleTableWrite_entries (lo := lo) hcode hne' hsize (by rwa [List.length_map]) (frameTaken s)
  rw [hw] at hhandle
  rw [List.flatMap_def, exec_tableWrite (tableWrite_length (entryBytes_pos id) hne' hsize hlen)]
  cases hread : (bs.map Vector.toList).mapM f with
  | none =>
    rw [hread] at hhandle
    obtain ⟨t, hx, href⟩ := request_refused h (kind := 0x07) (tag := tag) (ready := true) hhandle
    refine ⟨t, hx, fun _ => href, fun rs hrs => ?_⟩
    rw [(mapM_toList_iff hf).mpr hrs] at hread
    cases hread
  | some rs =>
    rw [hread] at hhandle
    obtain ⟨t, hx, hP⟩ := hacc rs ((mapM_toList_iff hf).mp hread) _ hhandle
    refine ⟨t, hx, fun hb => absurd ((mapM_toList_iff hf).mp hread) (not_forall₂_of_unread hb), fun rs' hrs => ?_⟩
    rw [(mapM_toList_iff hf).mpr hrs, Option.some.injEq] at hread
    rwa [hread]

end

/-! ## What the owners do (R10, R70, R88, R111) -/

theorem routeActs_outChan {before : Tables} {s : State} {c : Nat} (h : c < s.output.length) :
    (routeActs before s).outChan c =
      (s.outChan c).writeEnabled (before.routeOf c).enabled (s.tables.routeOf c).enabled :=
  getD_zipIdx_map h _ OutChan.reset _

theorem writeEnabled_eq (was now : Bool) (o : OutChan) :
    o.writeEnabled was now =
      match was, now with
      | true, false => o.addReason .disabled
      | false, true => o.removeReason .disabled
      | _, _ => o := by
  cases was <;> cases now <;> rfl

theorem arbitrate_arbiter (s : State) : (arbitrate s).arbiter = arbitrated s.tables s.arbiter := by
  unfold arbitrate
  dsimp only
  split
  · exact (Eq.symm ‹_›)
  · exact (post_only _ _).arbiter

/-- Arbitration posts ANN_STATE where it changed a record, and nothing else. -/
theorem arbitrate_link (s : State) :
    (arbitrate s).link = { s.link with
      notices := s.link.notices ++
        (if arbitrated s.tables s.arbiter = s.arbiter then [] else [Notice.annState]).filter
          fun n => n ∉ s.link.notices } := by
  unfold arbitrate
  dsimp only
  split
  · simp
  · exact post_link _ _

/-- A curve with entries replaced by ones that were read needs only its owner's check on the whole (R88). -/
theorem curveOk_splice {l : List CurvePoint} {bs : List (Vector Byte 3)} {ps : List CurvePoint} {first : Nat}
    (hl : ∀ p ∈ l, p.speed ≤ 255 ∧ p.boost ≤ 48) (hps : List.Forall₂ CurveReads bs ps) :
    curveOk (splice l first ps) = true ↔ CurveMeets (splice l first ps) := by
  rw [← curveOk_iff, Bool.and_eq_true, and_iff_right]
  rw [List.all_eq_true]
  intro p hp
  suffices p.speed ≤ 255 ∧ p.boost ≤ 48 by simpa [CurvePoint.inRange] using this
  obtain hp | hp := mem_splice hp
  · exact hl p hp
  · obtain ⟨b, -, hb⟩ := mem_of_forall₂ hps hp
    exact curvePoint_ofBytes_inRange ((curveOfBytes_iff b p).mpr hb)

/-! ## The statement -/

/-- Settles O47: the three tables of records, each by its owner's acts. -/
theorem recordTablesWritten : Obligations.RecordTablesWritten := by
  intro tag hi lo s h ht
  refine ⟨fun bs hne hr => ?_, fun bs hne hr => ?_, fun bs hne hr => ?_⟩
  · refine tableWrite_records routeOfBytes_iff h (id := .route) rfl rfl hne hr (by decide)
      (accept := fun rs s => Handled.done (acceptRoute (splice s.tables.route (u16 hi lo) rs) s))
      (fun es s => by dsimp only [writeEntries]; cases es.mapM Route.ofBytes <;> rfl) fun rs hrs handle hh => ?_
    obtain ⟨t, hx, ho, hreply⟩ := request_done h (tag := tag) (kind := 0x07) (ready := true) (ns := []) hh
      (by simp [acceptRoute, routeActs, afterFrame]) (by decide)
    refine ⟨t, hx, fun hshape => ⟨?_, hreply, ho.tables, fun c hc => ?_⟩⟩
    · exact ((frameTaken_only s).comp (acceptRoute_only _ _) (n := [.tables, .output, .link])).comp ho
    · rw [ho.outChan, ho.tables]
      exact (routeActs_outChan (s := (frameTaken s).withTables { s.tables with route := _ })
        (hc.trans_eq hshape.2.1.2.2.1.symm)).trans (writeEnabled_eq _ _ _)
  · refine tableWrite_records classOfBytes_iff h (id := .classes) rfl rfl hne hr (by decide)
      (accept := fun rs s => Handled.done (acceptClasses (splice s.tables.classes (u16 hi lo) rs) s))
      (fun es s => by dsimp only [writeEntries]; cases es.mapM ClassEntry.ofBytes <;> rfl) fun es hes handle hh => ?_
    obtain ⟨t, hx, ho, hreply⟩ := request_done h (tag := tag) (kind := 0x07) (ready := true) hh (arbitrate_link _)
      (by split <;> decide)
    have htables := ho.tables.trans (acceptClasses_tables _ _)
    have harbiter := ho.arbiter.trans (arbitrate_arbiter _)
    refine ⟨t, hx, ?_, htables, ?_, ?_⟩
    · exact ((frameTaken_only s).comp (acceptClasses_only _ _) (n := [.tables, .arbiter, .link])).comp ho
    · rw [htables]; exact harbiter
    · rw [harbiter]; exact hreply
  · refine tableWrite_records curveOfBytes_iff h (id := .speedCurve) rfl rfl hne hr (by decide)
      (accept := fun ps s => accepted (curveOk (splice s.tables.speedCurve (u16 hi lo) ps)) .tableInvalid s
        (acceptCurve (splice s.tables.speedCurve (u16 hi lo) ps) s))
      (fun es s => by dsimp only [writeEntries]; cases es.mapM CurvePoint.ofBytes <;> rfl) fun ps hps handle hh => ?_
    have hok := curveOk_splice (first := u16 hi lo) ht.1.2.2.1.1 hps
    by_cases hm : CurveMeets (splice s.tables.speedCurve (u16 hi lo) ps)
    · obtain ⟨t, hx, ho, hreply⟩ := request_done h (tag := tag) (kind := 0x07) (ready := true) (ns := [])
        (hh.trans (accepted_of_true (hok.mpr hm) _ _ _))
        (by simp [acceptCurve, recompute, afterFrame]) (by decide)
      refine ⟨t, hx, fun _ => ⟨?_, ho.tables, ?_, hreply⟩, fun hbad => absurd hm hbad⟩
      · exact ((frameTaken_only s).comp (acceptCurve_only _ _) (n := [.tables, .tracker, .link])).comp ho
      · rw [ho.tables]; exact ho.tracker
    · obtain ⟨t, hx, href⟩ := request_refused h (tag := tag) (kind := 0x07) (ready := true)
        (hh.trans (accepted_of_false (Bool.eq_false_iff.mpr fun h => hm (hok.mp h)) _ _ _))
      exact ⟨t, hx, fun hgood => absurd hgood hm, fun _ => href⟩

end Sys2Proof
end

section
/-! SUPPORT. Which notices are posted, the coefficient sets placed whole, and what a freed controller begins. -/

set_option Elab.async false

namespace Sys2Proof

open Sys2Proof.Machine

/-! ## Exactly what is posted (R182) -/

/-- The link of `t` is that of `s` after the postings `ns`. -/
def PostsJust (ns : List Notice) (s t : State) : Prop :=
  t.link = { s.link with notices := s.link.notices ++ ns.filter fun n => n ∉ s.link.notices }

theorem PostsJust.of_link {s t : State} (h : t.link = s.link) : PostsJust [] s t := by simp [PostsJust, h]

theorem PostsJust.post (k : Notice) (s : State) : PostsJust [k] s (s.post k) := post_link k s

theorem PostsJust.notices {ns : List Notice} {s t : State} (h : PostsJust ns s t) :
    t.link.notices = s.link.notices ++ ns.filter fun n => n ∉ s.link.notices :=
  congrArg Link.notices h

theorem PostsJust.trans {a b : List Notice} {s t u : State} (h : PostsJust a s t) (h' : PostsJust b t u)
    (hab : ∀ n ∈ b, n ∉ a) : PostsJust (a ++ b) s u := by
  have hb : (b.filter fun n => n ∉ t.link.notices) = b.filter fun n => n ∉ s.link.notices := by
    refine List.filter_congr fun n hn => ?_
    simp [h.notices, hab n hn]
  rw [PostsJust, h', hb, h, List.filter_append, List.append_assoc]

/-- A notice that is posted already waits: posting it again changes nothing. -/
theorem PostsJust.trans_again {a b : List Notice} {s t u : State} (h : PostsJust a s t) (h' : PostsJust b t u)
    (hab : ∀ n ∈ b, n ∈ a) : PostsJust a s u := by
  have hnone : (b.filter fun n => n ∉ t.link.notices) = [] := by
    rw [List.filter_eq_nil_iff]
    intro n hn
    simp [h.notices, hab n hn, em]
  rw [PostsJust, h', hnone, List.append_nil, h]

theorem PostsJust.then {a : List Notice} {s t u : State} (h : PostsJust a s t) (hl : u.link = t.link) : PostsJust a s u :=
  hl.trans h

theorem PostsJust.after {a : List Notice} {s t u : State} (h : PostsJust a t u) (hl : t.link = s.link) :
    PostsJust a s u := by
  unfold PostsJust at *
  rw [h, hl]

/-! ## One set placed (R158, R173) -/

/-- A set as LOAD places it. -/
def placedSet (w : Words) : CoeffSet := ⟨w, w, 0, .good, false, false⟩

theorem modifyOut_outChan_same {s : State} {c : Nat} (h : c < s.output.length) (f : OutChan → OutChan) :
    (s.modifyOut c f).outChan c = f (s.outChan c) := by
  change (s.output.modify c f).getD c OutChan.reset = f (s.output.getD c OutChan.reset)
  rw [List.getD_eq_getElem _ _ (by simpa using h), List.getElem_modify_eq, List.getD_eq_getElem _ _ h]

theorem modifyOut_outChan_other {d c : Nat} (h : d ≠ c) (f : OutChan → OutChan) (s : State) :
    (s.modifyOut d f).outChan c = s.outChan c := by
  change (s.output.modify d f).getD c OutChan.reset = s.output.getD c OutChan.reset
  rw [List.getD_eq_getElem?_getD, List.getElem?_modify, List.getD_eq_getElem?_getD]
  simp [h]

theorem writeSet_load (i : Nat) (w : Words) (s : State) :
    writeSet false i w s = leaveForGood (s.coeffSet i).state i (s.modifySet i fun _ => placedSet w) := rfl

/-- FAULT leaves a channel where the set is one of its fixed sets and all six are GOOD (R153). -/
theorem clearFault_outChan (i : Nat) {s : State} {c : Nat} (h : c < s.output.length) :
    (clearFault i s).outChan c =
      if (i < 144 ∧ i / 6 = c) ∧ fixedAllGood s c = true then (s.outChan c).removeReason .fault else s.outChan c := by
  unfold clearFault
  by_cases hc : i / 6 = c
  · subst hc
    by_cases hgood : i < 144 ∧ fixedAllGood s (i / 6) = true
    · rw [if_pos hgood, if_pos ⟨⟨hgood.1, rfl⟩, hgood.2⟩]
      exact modifyOut_outChan_same h _
    · rw [if_neg hgood, if_neg (hgood ∘ fun hboth => ⟨hboth.1.1, hboth.2⟩)]
  · rw [if_neg (c := (i < 144 ∧ _) ∧ _) fun hboth => hc hboth.1.2]
    split
    · exact modifyOut_outChan_other hc _ s
    · rfl

theorem clearFault_output_length (i : Nat) (s : State) : (clearFault i s).output.length = s.output.length := by
  unfold clearFault
  split
  · exact List.length_modify _ _ _
  · rfl

theorem recordTransition_integrity (i : Nat) (x : SetState) (r : Bool) (s : State) :
    (recordTransition i x r s).integrity = { s.integrity with last := some ⟨i, x, r⟩ } := (post_only _ _).integrity

theorem fixedAllGood_congr {s t : State} (h : s.integrity.sets = t.integrity.sets) (c : Nat) :
    fixedAllGood s c = fixedAllGood t c := by
  unfold fixedAllGood State.coeffSet
  rw [h]

/-- A set of a state other than GOOD that is written leaves the queue, and the rest follows (R153, R158, R160). -/
theorem writeSet_bad {i : Nat} {s : State} (hbad : (s.coeffSet i).state ≠ .good) (hread : s.read = none) (w : Words) :
    writeSet false i w s = recordTransition i .good false (clearFault i (s.withIntegrity { s.integrity with
      sets := s.integrity.sets.modify i fun _ => placedSet w
      queue := if (s.coeffSet i).state = .suspect then s.integrity.queue.erase i else s.integrity.queue })) := by
  have hdiscard : ∀ u : State, u.read = none → discardRead i u = u := fun u hu => by simp [discardRead, hu]
  rw [writeSet_load]
  cases hst : (s.coeffSet i).state
  case good => exact absurd hst hbad
  case suspect => rfl
  case restoring => rw [leaveForGood, hdiscard (s.modifySet i _) hread]; rfl
  case failed => rfl

theorem writeSet_good {i : Nat} {s : State} (hgood : (s.coeffSet i).state = .good) (w : Words) :
    writeSet false i w s = s.modifySet i fun _ => placedSet w := by
  rw [writeSet_load, hgood]
  rfl

theorem writeSet_integrity {i : Nat} {s : State} (hread : s.read = none) (w : Words) :
    (writeSet false i w s).integrity = { s.integrity with
      sets := s.integrity.sets.modify i fun _ => placedSet w
      queue := if (s.coeffSet i).state = .suspect then s.integrity.queue.erase i else s.integrity.queue
      last := if (s.coeffSet i).state = .good then s.integrity.last else some ⟨i, .good, false⟩ } := by
  by_cases hgood : (s.coeffSet i).state = .good
  · rw [writeSet_good hgood, hgood]
    rfl
  · rw [writeSet_bad hgood hread, if_neg hgood, recordTransition_integrity, (clearFault_only _ _).integrity]
    rfl

theorem writeSet_postsJust {i : Nat} {s : State} (hread : s.read = none) (w : Words) :
    PostsJust (if (s.coeffSet i).state = .good then [] else [.coeffState]) s (writeSet false i w s) := by
  by_cases hgood : (s.coeffSet i).state = .good
  · rw [writeSet_good hgood, if_pos hgood]
    exact .of_link rfl
  · rw [writeSet_bad hgood hread, if_neg hgood]
    exact (PostsJust.post _ _).after (clearFault_only _ _).link

theorem writeSet_outChan {i : Nat} {s : State} (hread : s.read = none) (w : Words) {c : Nat} (hc : c < s.output.length) :
    (writeSet false i w s).outChan c =
      if ((s.coeffSet i).state ≠ .good ∧ i < 144 ∧ i / 6 = c) ∧ fixedAllGood (writeSet false i w s) c = true then
        (s.outChan c).removeReason .fault
      else s.outChan c := by
  by_cases hgood : (s.coeffSet i).state = .good
  · rw [if_neg fun h => h.1.1 hgood, writeSet_good hgood]
    rfl
  · have hsets : ∀ u : State, fixedAllGood (recordTransition i .good false (clearFault i u)) c = fixedAllGood u c := by
      refine fun u => fixedAllGood_congr ?_ c
      rw [recordTransition_integrity, (clearFault_only _ _).integrity]
    rw [writeSet_bad hgood hread, hsets, (recordTransition_only _ _ _ _).outChan, clearFault_outChan]
    · simp only [hgood, ne_eq, not_false_eq_true, true_and]
      rfl
    · exact hc

theorem writeSet_output_length {i : Nat} {s : State} (hread : s.read = none) (w : Words) :
    (writeSet false i w s).output.length = s.output.length := by
  by_cases hgood : (s.coeffSet i).state = .good
  · rw [writeSet_good hgood]
    rfl
  · rw [writeSet_bad hgood hread, (recordTransition_only _ _ _ _).output, clearFault_output_length]
    rfl

theorem writeSet_coeffSet_other {i j : Nat} (hij : i ≠ j) {s : State} (hread : s.read = none) (w : Words) :
    (writeSet false i w s).coeffSet j = s.coeffSet j := by
  rw [State.coeffSet, writeSet_integrity hread, List.getD_eq_getElem?_getD, List.getElem?_modify]
  simp [hij, State.coeffSet]

theorem writeSet_coeffSet_same {i : Nat} {s : State} (hi : i < s.integrity.sets.length) (hread : s.read = none) (w : Words) :
    (writeSet false i w s).coeffSet i = placedSet w := by
  rw [State.coeffSet, writeSet_integrity hread, List.getD_eq_getElem _ _ (by simpa using hi), List.getElem_modify_eq]

theorem writeSet_read {i : Nat} {s : State} (hread : s.read = none) (w : Words) : (writeSet false i w s).read = none := by
  by_cases hgood : (s.coeffSet i).state = .good
  · rw [writeSet_good hgood]
    exact hread
  · rw [writeSet_bad hgood hread, (recordTransition_only _ _ _ _).read, (clearFault_only _ _).read]
    exact hread

/-- A written set is in no queue, and every other set is in it as before (R152). -/
theorem writeSet_queueOk {i : Nat} {s : State} (hq : QueueOk s) (hi : i < 344) (hread : s.read = none) (w : Words) :
    QueueOk (writeSet false i w s) := by
  obtain ⟨hlen, hnodup, hmem⟩ := hq
  have hint := writeSet_integrity (i := i) hread w
  refine ⟨by simpa [hint] using hlen, ?_, fun j => ?_⟩
  · rw [hint]
    dsimp only
    split
    · exact hnodup.erase i
    · exact hnodup
  · have hqueue : j ∈ (writeSet false i w s).integrity.queue ↔ j ≠ i ∧ j ∈ s.integrity.queue := by
      rw [hint]
      dsimp only
      split
      next => exact hnodup.mem_erase_iff
      next hst => exact ⟨fun hj => ⟨fun e => hst ((hmem i).mp (e ▸ hj)).2, hj⟩, fun hj => hj.2⟩
    rw [hqueue, hmem j]
    by_cases hij : i = j
    · subst hij
      simp [writeSet_coeffSet_same (hi.trans_eq hlen.symm) hread, placedSet]
    · rw [writeSet_coeffSet_other hij hread]
      simp [Ne.symm hij]

/-! ## All sets placed -/

/-- The sets that are not GOOD among `n` from index `i`. -/
def notGood (s : State) (i n : Nat) : List Nat := (List.range' i n).filter fun j => (s.coeffSet j).state ≠ .good

theorem notGood_succ (s : State) (i n : Nat) :
    notGood s i (n + 1) = (if (s.coeffSet i).state = .good then [] else [i]) ++ notGood s (i + 1) n := by
  unfold notGood
  rw [List.range'_succ, List.filter_cons]
  by_cases h : (s.coeffSet i).state = .good <;> simp [h]

theorem notGood_writeSet {i : Nat} {s : State} (hread : s.read = none) (w : Words) (n : Nat) :
    notGood (writeSet false i w s) (i + 1) n = notGood s (i + 1) n := by
  refine List.filter_congr fun j hj => ?_
  rw [writeSet_coeffSet_other (by have := List.mem_range'_1.mp hj; omega) hread]

theorem writeSets_cons (i : Nat) (w : Words) (ws : List Words) (s : State) :
    writeSets false i (w :: ws) s = writeSets false (i + 1) ws (writeSet false i w s) := rfl

theorem writeSets_read : ∀ (ws : List Words) (i : Nat) {s : State}, s.read = none → (writeSets false i ws s).read = none
  | [], _, _, h => h
  | w :: ws, i, _, h => writeSets_read ws (i + 1) (writeSet_read h w)

theorem writeSets_output_length : ∀ (ws : List Words) (i : Nat) {s : State}, s.read = none →
    (writeSets false i ws s).output.length = s.output.length
  | [], _, _, _ => rfl
  | w :: ws, i, _, h => (writeSets_output_length ws (i + 1) (writeSet_read h w)).trans (writeSet_output_length h w)

theorem modify_length_append {α : Type} (f : α → α) (a : α) (old : List α) : ∀ pre : List α,
    (pre ++ a :: old).modify pre.length f = pre ++ f a :: old
  | [] => rfl
  | x :: pre => congrArg (x :: ·) (modify_length_append f a old pre)

theorem writeSets_sets : ∀ (ws : List Words) {pre old : List CoeffSet} {s : State}, s.read = none →
    s.integrity.sets = pre ++ old → old.length = ws.length →
    (writeSets false pre.length ws s).integrity.sets = pre ++ ws.map placedSet
  | [], pre, old, s, _, hs, hlen => by
    rw [List.length_eq_zero_iff.mp hlen] at hs
    exact hs
  | w :: ws, pre, old, s, hread, hs, hlen => by
    obtain ⟨e, old, rfl⟩ := List.exists_cons_of_length_eq_add_one hlen
    have hstep : (writeSet false pre.length w s).integrity.sets = (pre ++ [placedSet w]) ++ old := by
      rw [writeSet_integrity hread, hs]
      simp [modify_length_append]
    have hrest := writeSets_sets ws (pre := pre ++ [placedSet w]) (writeSet_read hread w) hstep (by simpa using hlen)
    simpa [writeSets_cons] using hrest

theorem writeSets_queueOk : ∀ (ws : List Words) {i : Nat} {s : State}, QueueOk s → i + ws.length ≤ 344 → s.read = none →
    QueueOk (writeSets false i ws s)
  | [], _, _, hq, _, _ => hq
  | w :: ws, i, s, hq, hi, hread => by
    rw [List.length_cons] at hi
    exact writeSets_queueOk ws (writeSet_queueOk hq (by omega) hread w) (by omega) (writeSet_read hread w)

/-- Placing sets leaves the checker's position and counters alone; the last record is the last transition's (R160). -/
theorem writeSets_last : ∀ (ws : List Words) {i : Nat} {s : State}, s.read = none →
    let n := (writeSets false i ws s).integrity
    n = { s.integrity with
      sets := n.sets, queue := n.queue
      last := ((notGood s i ws.length).getLast?.map fun j => ⟨j, .good, false⟩).or s.integrity.last }
  | [], i, s, _ => by simp [writeSets, notGood]
  | w :: ws, i, s, hread => by
    have hrest := writeSets_last ws (i := i + 1) (writeSet_read hread w (i := i))
    dsimp only at hrest ⊢
    rw [writeSets_cons, hrest, notGood_writeSet hread, List.length_cons, notGood_succ, writeSet_integrity hread]
    by_cases hgood : (s.coeffSet i).state = .good
    · simp [hgood]
    · cases hl : (notGood s (i + 1) ws.length).getLast? <;> simp [hgood, hl, List.getLast?_cons]

/-- Placing sets posts COEFF_STATE where a set leaves a state other than GOOD (R160). -/
theorem writeSets_postsJust : ∀ (ws : List Words) {i : Nat} {s : State}, s.read = none →
    PostsJust (if notGood s i ws.length = [] then [] else [.coeffState]) s (writeSets false i ws s)
  | [], _, _, _ => .of_link rfl
  | w :: ws, i, s, hread => by
    have hstep := writeSet_postsJust (i := i) hread w
    have hrest := writeSets_postsJust ws (i := i + 1) (writeSet_read hread w (i := i))
    rw [notGood_writeSet hread] at hrest
    rw [writeSets_cons, List.length_cons, notGood_succ]
    by_cases hgood : (s.coeffSet i).state = .good
    · rw [if_pos hgood] at hstep ⊢
      exact hstep.trans hrest fun n _ => List.not_mem_nil
    · rw [if_neg hgood] at hstep
      rw [if_neg hgood, if_neg (by simp)]
      exact hstep.trans_again hrest (by split <;> simp)

/-- One of the six fixed sets of a channel is not GOOD (R153). -/
def FixedBad (s : State) (c : Nat) : Prop := ∃ k ∈ List.range 6, (s.coeffSet (6 * c + k)).state ≠ .good

theorem fixedAllGood_iff (s : State) (c : Nat) : fixedAllGood s c = true ↔ ¬FixedBad s c := by
  simp [fixedAllGood, FixedBad]

theorem fixedBad_writeSet {i : Nat} {s : State} (hi : i < s.integrity.sets.length) (hread : s.read = none) (w : Words)
    {c : Nat} (h : FixedBad (writeSet false i w s) c) : FixedBad s c := by
  obtain ⟨k, hk, hbad⟩ := h
  refine ⟨k, hk, fun hgood => hbad ?_⟩
  by_cases hik : i = 6 * c + k
  · rw [← hik, writeSet_coeffSet_same hi hread]
    rfl
  · rw [writeSet_coeffSet_other hik hread]
    exact hgood

theorem fixedBad_of_writeSet_other {i : Nat} {s : State} (hread : s.read = none) (w : Words) {c : Nat}
    (hother : (s.coeffSet i).state = .good ∨ i / 6 ≠ c) (h : FixedBad s c) : FixedBad (writeSet false i w s) c := by
  obtain ⟨k, hk, hbad⟩ := h
  have hk6 := List.mem_range.mp hk
  refine ⟨k, hk, ?_⟩
  rw [writeSet_coeffSet_other (fun e => ?_) hread]
  · exact hbad
  · obtain hgood | hne := hother
    · exact hbad (e ▸ hgood)
    · omega

/-- FAULT leaves each channel that had a bad fixed set once, with its last bad set (R153). -/
theorem writeSets_outChan : ∀ (ws : List Words) {i : Nat} {s : State}, s.integrity.sets.length = 344 → s.output.length = 24 →
    s.read = none → i + ws.length = 344 → (∀ j, j < i → (s.coeffSet j).state = .good) → ∀ {c : Nat}, c < 24 →
    (FixedBad s c → (writeSets false i ws s).outChan c = (s.outChan c).removeReason .fault) ∧
      (¬FixedBad s c → (writeSets false i ws s).outChan c = s.outChan c)
  | [], i, s, _, _, _, hi, hgood, c, hc => by
    refine ⟨fun ⟨k, hk, hbad⟩ => absurd (hgood _ ?_) hbad, fun _ => rfl⟩
    have := List.mem_range.mp hk
    simp at hi
    omega
  | w :: ws, i, s, hsets, hout, hread, hi, hgood, c, hc => by
    rw [List.length_cons] at hi
    have hi' : i < s.integrity.sets.length := by omega
    have hstep := writeSet_outChan (i := i) hread w (hc.trans_eq hout.symm)
    obtain ⟨hrest, hrest'⟩ := writeSets_outChan ws (i := i + 1) (s := writeSet false i w s)
      (by simpa [writeSet_integrity hread] using hsets) (by rw [writeSet_output_length hread, hout]) (writeSet_read hread w) (by omega)
      (fun j hj => by
        by_cases hij : i = j
        · rw [← hij, writeSet_coeffSet_same hi' hread]
          rfl
        · rw [writeSet_coeffSet_other hij hread]
          exact hgood j (by omega)) hc
    rw [writeSets_cons]
    by_cases hbad : FixedBad (writeSet false i w s) c
    · have hbefore := fixedBad_writeSet hi' hread w hbad
      rw [if_neg fun h => (fixedAllGood_iff _ c).mp h.2 hbad] at hstep
      exact ⟨fun _ => by rw [hrest hbad, hstep], fun h => absurd hbefore h⟩
    · rw [hrest' hbad, hstep]
      by_cases hlast : (s.coeffSet i).state ≠ .good ∧ i < 144 ∧ i / 6 = c
      · rw [if_pos ⟨hlast, (fixedAllGood_iff _ c).mpr hbad⟩]
        refine ⟨fun _ => rfl, fun h => absurd ⟨i % 6, List.mem_range.mpr (Nat.mod_lt _ (by decide)), ?_⟩ h⟩
        rw [show 6 * c + i % 6 = i by omega]
        exact hlast.1
      · rw [if_neg fun h => hlast h.1]
        refine ⟨fun h => absurd (fixedBad_of_writeSet_other hread w ?_ h) hbad, fun _ => rfl⟩
        by_cases hst : (s.coeffSet i).state = .good
        · exact .inl hst
        · exact .inr fun hc' => hlast ⟨hst, by omega, hc'⟩

/-- The checker once every set has been placed (R158, R173). -/
theorem writeSets_all {ws : List Words} {s : State} (hq : QueueOk s) (hread : s.read = none) (hlen : ws.length = 344) :
    (writeSets false 0 ws s).integrity = { s.integrity with
      sets := ws.map placedSet, queue := []
      last := ((notGood s 0 344).getLast?.map fun j => ⟨j, .good, false⟩).or s.integrity.last } := by
  have hsets : (writeSets false 0 ws s).integrity.sets = ws.map placedSet :=
    writeSets_sets ws (pre := []) hread rfl (hq.1.trans hlen.symm)
  have hlast := writeSets_last ws (i := 0) hread
  obtain ⟨-, -, hmem⟩ := writeSets_queueOk ws (i := 0) hq (by omega) hread
  have hqueue : (writeSets false 0 ws s).integrity.queue = [] := by
    refine List.eq_nil_iff_forall_not_mem.mpr fun j hj => ?_
    obtain ⟨hj344, hst⟩ := (hmem j).mp hj
    rw [State.coeffSet, hsets, List.getD_eq_getElem _ _ (by simpa [hlen] using hj344), List.getElem_map] at hst
    cases hst
  dsimp only at hlast
  rw [hlast, hqueue, hsets, hlen]

/-! ## What a freed controller begins (R154, R165) -/

/-- With an empty queue the waiting host operation begins. -/
theorem grantNext_nil {s : State} (hqueue : s.integrity.queue = []) (hidle : s.store.running = none) :
    grantNext s = s.withStore { s.store with running := s.store.waiting.map StoreOp.host, waiting := none } := by
  have hnone : readWaits s = false := by simp [readWaits, hqueue]
  rw [grantNext, hnone]
  unfold beginHost
  cases hw : s.store.waiting with
  | none =>
    have hsame : ({ s.store with running := none, waiting := none } : Store) = s.store := by
      cases hst : s.store
      simp_all
    exact congrArg s.withStore hsame.symm
  | some op => rfl

/-- Otherwise the read of the set at its head begins. -/
theorem grantNext_cons {s : State} {i : Nat} {rest : List Nat} (hqueue : s.integrity.queue = i :: rest)
    (hread : s.read = none) :
    grantNext s = recordTransition i .restoring false ((((s.withIntegrity { s.integrity with queue := rest }).modifySet i
      fun e => { e with state := .restoring }).withRead (some ⟨i, false, storedCopy s i⟩)).withStore
        { s.store with running := some .readSet }) := by
  have hwaits : readWaits s = true := by simp [readWaits, hqueue, hread]
  rw [grantNext, hwaits]
  simp only [if_true, beginRead, hqueue]

theorem grantNext_begins {s : State} (hread : s.read = none) (hidle : s.store.running = none) :
    Begins s.integrity s.store (grantNext s) ∧ PostsJust (beginPosts s.integrity) s (grantNext s) := by
  unfold Begins beginPosts
  cases hqueue : s.integrity.queue with
  | nil =>
    rw [grantNext_nil hqueue hidle]
    exact ⟨⟨rfl, hread, rfl⟩, .of_link rfl⟩
  | cons i rest =>
    have hrecord := recordTransition_only i .restoring false
    rw [grantNext_cons hqueue hread]
    refine ⟨⟨recordTransition_integrity _ _ _ _, (hrecord _).read, (hrecord _).store⟩, ?_⟩
    exact (PostsJust.post _ _).after (by simp [State.modifySet])

/-- What begins is told by the records, the read and the store alone. -/
theorem Begins.of_frame {n : Integrity} {st : Store} {s t : State} (h : Begins n st s) (ho : Only [.link] s t) :
    Begins n st t := by
  unfold Begins at *
  rw [ho.integrity, ho.read, ho.store]
  exact h

end Sys2Proof
end

section
/-! SUPPORT. What LOAD leaves: the stored tables with their owners' acts, the patches, the scene, the end of LOADING. -/

set_option Elab.async false

namespace Sys2Proof

open Sys2Proof.Machine

/-! ## What the owners' acts depend on -/

theorem derived_congr {t t' : Tables} {live live' : Scene} (hcurve : t.speedCurve = t'.speedCurve)
    (hdiv : t.global .sdvBassDiv = t'.global .sdvBassDiv) (hlevel : live.val .sdvLevel = live'.val .sdvLevel) (m : Tracker) :
    derived t live m = derived t' live' m := by
  unfold derived
  rw [hcurve, hdiv, hlevel]

/-- A recomputation replaces an earlier one: neither the switch nor it touches what they read. -/
theorem derived_switched_derived (t t' was now : Tables) (live live' : Scene) (m : Tracker) :
    derived t live (switchedTracker was now (derived t' live' m)) = derived t live (switchedTracker was now m) := by
  unfold switchedTracker
  split
  · split <;> rfl
  · rfl

theorem switchedTracker_derived (t was now : Tables) (live : Scene) (m : Tracker) :
    switchedTracker was now (derived t live m) = derived t live (switchedTracker was now m) := by
  unfold switchedTracker
  split
  · split <;> rfl
  · rfl

section
variable {t t' : Tables} (h : t.classes = t'.classes)
include h

theorem classEntry_congr : t.classEntry = t'.classEntry := by
  unfold Tables.classEntry
  rw [h]

theorem insertRanked_congr (k : AnnClass) : ∀ l, insertRanked t k l = insertRanked t' k l
  | [] => rfl
  | x :: l => by
    unfold insertRanked ranksAbove
    rw [classEntry_congr h, insertRanked_congr k l]

theorem rankOrder_congr : rankOrder t = rankOrder t' := by
  unfold rankOrder
  simp only [insertRanked_congr h]

theorem grantAll_congr (a : Arbiter) : grantAll t a = grantAll t' a := by
  unfold grantAll grantOne pendingRanked
  rw [rankOrder_congr h]

theorem victim_congr (a : Arbiter) : victim t a = victim t' a := by
  unfold victim pendingRanked activeRanked
  rw [rankOrder_congr h, classEntry_congr h]

theorem preempt_congr (a : Arbiter) (k : AnnClass) (slot : Slot) : preempt t a k slot = preempt t' a k slot := by
  unfold preempt
  rw [classEntry_congr h]

theorem arbitrateRounds_congr : ∀ (n : Nat) (a : Arbiter), arbitrateRounds t n a = arbitrateRounds t' n a
  | 0, _ => rfl
  | n + 1, a => by
    unfold arbitrateRounds
    simp only [grantAll_congr h, victim_congr h, preempt_congr h, arbitrateRounds_congr n]

/-- Arbitration reads the class entries alone. -/
theorem arbitrated_congr (a : Arbiter) : arbitrated t a = arbitrated t' a := arbitrateRounds_congr h 4 a

end

/-! ## The tables placed (R173) -/

theorem acceptClasses_arbiter (t : Tables) (s : State) :
    (acceptClasses t.classes s).arbiter = arbitrated t s.arbiter :=
  (arbitrate_arbiter _).trans (arbitrated_congr (by rfl) _)

theorem acceptClasses_postsJust (t : Tables) (s : State) :
    PostsJust (if arbitrated t s.arbiter = s.arbiter then [] else [.annState]) s (acceptClasses t.classes s) := by
  have h : arbitrated { s.tables with classes := t.classes } s.arbiter = arbitrated t s.arbiter :=
    arbitrated_congr (by rfl) _
  rw [← h]
  exact arbitrate_link _

theorem acceptRoute_outChan (l : List Route) {s : State} {c : Nat} (hc : c < s.output.length) :
    (acceptRoute l s).outChan c =
      (s.outChan c).writeEnabled (s.tables.routeOf c).enabled (({ s.tables with route := l } : Tables).routeOf c).enabled :=
  routeActs_outChan (s := s.withTables { s.tables with route := l }) hc

/-- The level tables and the curve, ids 1 to 5. -/
def curvedStage (f : FactoryImage) (s : State) : State :=
  acceptCurve f.tables.speedCurve (s.withTables { s.tables with
    volume := f.tables.volume, annVolume := f.tables.annVolume, balance := f.tables.balance, fade := f.tables.fade })

/-- The classes and the routes placed after them, ids 6 and 7. -/
def routedStage (f : FactoryImage) (s : State) : State :=
  acceptRoute f.tables.route (acceptClasses f.tables.classes (curvedStage f s))

theorem curvedStage_only (f : FactoryImage) (s : State) : Only [.tables, .tracker] s (curvedStage f s) :=
  (withTables_only s _).comp (acceptCurve_only _ _)

theorem curvedStage_tracker (f : FactoryImage) (s : State) :
    (curvedStage f s).tracker = derived { f.tables with globals := s.tables.globals } s.planner.live s.tracker := rfl

theorem routedStage_tables (f : FactoryImage) (s : State) :
    (routedStage f s).tables = { s.tables with
      volume := f.tables.volume, annVolume := f.tables.annVolume, balance := f.tables.balance, fade := f.tables.fade
      speedCurve := f.tables.speedCurve, classes := f.tables.classes, route := f.tables.route } := by
  rw [routedStage, acceptRoute_tables, acceptClasses_tables]
  rfl

theorem routedStage_only (f : FactoryImage) (s : State) :
    Only [.tables, .tracker, .arbiter, .output, .link] s (routedStage f s) :=
  ((curvedStage_only f s).comp (acceptClasses_only _ _) (n := [.tables, .tracker, .arbiter, .link])).comp
    (acceptRoute_only _ _)

theorem routedStage_outChan (f : FactoryImage) {s : State} {c : Nat} (hc : c < s.output.length) :
    (routedStage f s).outChan c =
      (s.outChan c).writeEnabled (s.tables.routeOf c).enabled (f.tables.routeOf c).enabled := by
  have houtput : (acceptClasses f.tables.classes (curvedStage f s)).output = s.output :=
    (acceptClasses_only _ _).output.trans (curvedStage_only f s).output
  rw [routedStage, acceptRoute_outChan _ (by rwa [houtput]), State.outChan, houtput, acceptClasses_tables]
  rfl

theorem routedStage_tracker (f : FactoryImage) (s : State) :
    (routedStage f s).tracker = derived { f.tables with globals := s.tables.globals } s.planner.live s.tracker :=
  ((acceptRoute_only _ _).tracker.trans (acceptClasses_only _ _).tracker).trans (curvedStage_tracker f s)

theorem routedStage_arbiter (f : FactoryImage) (s : State) :
    (routedStage f s).arbiter = arbitrated f.tables s.arbiter := by
  rw [routedStage, (acceptRoute_only _ _).arbiter, acceptClasses_arbiter, (curvedStage_only f s).arbiter]

theorem routedStage_postsJust (f : FactoryImage) (s : State) :
    PostsJust (if arbitrated f.tables s.arbiter = s.arbiter then [] else [.annState]) s (routedStage f s) := by
  have h := acceptClasses_postsJust f.tables (curvedStage f s)
  rw [(curvedStage_only f s).arbiter] at h
  exact (h.after (curvedStage_only f s).link).then (acceptRoute_only _ _).link

/-- The channel tables of ids 9 to 12, CH_DELAY the last of them. -/
def delayedStage (f : FactoryImage) (s : State) : State :=
  acceptNums .delay 0 24 f.tables.delay ((routedStage f s).withTables { f.tables with
    delay := s.tables.delay, globals := s.tables.globals })

theorem placeNums_levels (f : FactoryImage) (s : State) :
    [TableId.volume, .annVolume, .balance, .fade].foldl (placeNums f) s = s.withTables { s.tables with
      volume := f.tables.volume, annVolume := f.tables.annVolume, balance := f.tables.balance, fade := f.tables.fade } := rfl

theorem placeNums_columns (f : FactoryImage) (s : State) :
    [TableId.trim, .ceiling, .annTrim, .sdvWeight].foldl (placeNums f) s = s.withTables { s.tables with
      trim := f.tables.trim, ceiling := f.tables.ceiling, annTrim := f.tables.annTrim
      sdvWeight := f.tables.sdvWeight } := rfl

/-- Every table placed, GLOBALS the last. -/
def placedStage (f : FactoryImage) (s : State) : State := acceptNums .globals 0 17 f.tables.globals (delayedStage f s)

theorem placeFactory_eq (f : FactoryImage) (s : State) :
    placeFactory f s = writeSets false 0 (f.sets.map (·.words)) (placedStage f s) := by
  have hstages : placeFactory f s = writeSets false 0 (f.sets.map (·.words))
      (placeNums f (placeNums f ([TableId.trim, .ceiling, .annTrim, .sdvWeight].foldl (placeNums f) (acceptRoute
        f.tables.route (acceptClasses f.tables.classes (acceptCurve f.tables.speedCurve
          ([TableId.volume, .annVolume, .balance, .fade].foldl (placeNums f) s))))) .delay) .globals) := rfl
  rw [hstages, placeNums_levels, ← curvedStage, ← routedStage, placeNums_columns, routedStage_tables]
  rfl

theorem delayedStage_from_routed (f : FactoryImage) (s : State) :
    Only [.tables, .output] (routedStage f s) (delayedStage f s) := (withTables_only _ _).comp (delayActs_only _ _ _)

theorem delayedStage_only (f : FactoryImage) (s : State) :
    Only [.tables, .tracker, .arbiter, .output, .link] s (delayedStage f s) :=
  (routedStage_only f s).comp (delayedStage_from_routed f s)

theorem routedStage_output_length (f : FactoryImage) (s : State) :
    (routedStage f s).output.length = s.output.length := by
  have h : (routedStage f s).output.length = (acceptClasses f.tables.classes (curvedStage f s)).output.length := by
    simp [routedStage, acceptRoute, routeActs]
  rw [h, (acceptClasses_only _ _).output, (curvedStage_only f s).output]

theorem delayedStage_outChan (f : FactoryImage) {s : State} {c : Nat} (hc : c < 24) (hout : s.output.length = 24) :
    (delayedStage f s).outChan c =
      ((s.outChan c).writeEnabled (s.tables.routeOf c).enabled (f.tables.routeOf c).enabled).writeDelay
        (s.line c).applied (f.tables.delay.getD c 0).toNat := by
  rw [← routedStage_outChan f (hc.trans_eq hout.symm), ← (routedStage_only f s).line]
  refine (delayActs_outChan ?_ 0 24).trans (if_pos ⟨Nat.zero_le c, by omega⟩)
  exact hc.trans_eq ((routedStage_output_length f s).trans hout).symm

theorem placedStage_from_delayed (f : FactoryImage) (s : State) :
    Only [.tables, .ramp, .tracker, .link] (delayedStage f s) (placedStage f s) :=
  (acceptNums_globals_acts 0 17 f.tables.globals (delayedStage f s)).1

theorem placedStage_only (f : FactoryImage) (s : State) :
    Only [.tables, .ramp, .tracker, .arbiter, .output, .link] s (placedStage f s) :=
  (delayedStage_only f s).comp (placedStage_from_delayed f s)

theorem placedStage_tables (f : FactoryImage) (s : State) : (placedStage f s).tables = f.tables :=
  acceptNums_tables _ _ _ _ _

theorem placedStage_ramp (f : FactoryImage) (s : State) : (placedStage f s).ramp = { s.ramp with divider := 0 } := by
  obtain ⟨-, -, hramp, -⟩ := acceptNums_globals_acts 0 17 f.tables.globals (delayedStage f s)
  rw [placedStage, hramp, (delayedStage_only f s).ramp]
  rfl

theorem placedStage_outChan (f : FactoryImage) {s : State} {c : Nat} (hc : c < 24) (hout : s.output.length = 24) :
    (placedStage f s).outChan c =
      ((s.outChan c).writeEnabled (s.tables.routeOf c).enabled (f.tables.routeOf c).enabled).writeDelay
        (s.line c).applied (f.tables.delay.getD c 0).toNat := by
  rw [(placedStage_from_delayed f s).outChan, delayedStage_outChan f hc hout]

theorem placedStage_output_length (f : FactoryImage) (s : State) :
    (placedStage f s).output.length = s.output.length := by
  have h : (delayedStage f s).output.length = (routedStage f s).output.length := by
    simp [delayedStage, acceptNums_delay, delayActs]
  rw [(placedStage_from_delayed f s).output, h, routedStage_output_length]

theorem placedStage_arbiter (f : FactoryImage) (s : State) :
    (placedStage f s).arbiter = arbitrated f.tables s.arbiter := by
  rw [(placedStage_from_delayed f s).arbiter, (delayedStage_from_routed f s).arbiter, routedStage_arbiter]

/-- The tracker has switched and recomputed: with the curve, and again where SDV_BASS_DIV changes (R91, R92). -/
theorem placedStage_tracker (f : FactoryImage) (s : State) :
    (placedStage f s).tracker = derived f.tables s.planner.live (switchedTracker s.tables f.tables s.tracker) := by
  obtain ⟨-, -, -, htracker, -⟩ := acceptNums_globals_acts 0 17 f.tables.globals (delayedStage f s)
  have hold : (delayedStage f s).tracker = derived { f.tables with globals := s.tables.globals } s.planner.live s.tracker :=
    (delayedStage_from_routed f s).tracker.trans (routedStage_tracker f s)
  have hswitch : ∀ m, switchedTracker (delayedStage f s).tables f.tables m = switchedTracker s.tables f.tables m :=
    fun m => rfl
  rw [placedStage, htracker, ← placedStage, placedStage_tables, (delayedStage_only f s).planner, hold, hswitch]
  split
  next hdiv =>
    rw [switchedTracker_derived]
    exact derived_congr (by rfl) hdiv.symm rfl _
  next => rw [derived_switched_derived]

theorem placedStage_postsJust (f : FactoryImage) (s : State) :
    PostsJust ((if arbitrated f.tables s.arbiter = s.arbiter then [] else [.annState]) ++
      (if f.tables.global .speedSource ≠ s.tables.global .speedSource then [.speedState] else [])) s (placedStage f s) := by
  obtain ⟨-, htables, -, -, hlink⟩ := acceptNums_globals_acts 0 17 f.tables.globals (delayedStage f s)
  rw [htables] at hlink
  have hrouted := (routedStage_postsJust f s).then (delayedStage_from_routed f s).link
  refine hrouted.trans hlink fun n hn hann => ?_
  have hspeed : n = .speedState := by simpa using (List.mem_ite_nil_right.mp hn).2
  have hstate : n = .annState := by simpa using (List.mem_ite_nil_left.mp hann).2
  cases hspeed.symm.trans hstate

end Sys2Proof
end

section
/-! SUPPORT. The dealer patches over the stored tables, the scene, the end of LOADING, and the statement on LOAD. -/

set_option Elab.async false

namespace Sys2Proof

open Sys2Proof.Machine

/-! ## The dealer patches (R173) -/

/-- The tables and the count of skipped patches, after one record more. -/
def patchStage (x : Tables × Nat) (r : PatchRec) : Tables × Nat :=
  let patched := splice (x.1.nums r.table.table) r.index [r.value]
  if r.index < r.table.table.entries ∧ numsOk r.table.table patched = true then (x.1.putNums r.table.table patched, x.2)
  else (x.1, x.2 + 1)

/-- The state with tables and a count put in. -/
def withStage (s : State) (x : Tables × Nat) : State :=
  (s.withTables x.1).withStartup { s.startup with skipped := x.2 }

theorem writePatch_eq (t : PatchTable) (i : Nat) (v : Int) (s : State) :
    writePatch t i v s = s.withTables (s.tables.putNums t.table (patchedTable t i v s)) := by
  refine acceptNums_plain ?_ _ _ _ _
  cases t <;> decide

theorem applyPatch_eq (s : State) (r : PatchRec) :
    applyPatch s r = withStage s (patchStage (s.tables, s.startup.skipped) r) := by
  have hok : patchOk r.table r.index r.value s = true ↔ r.index < r.table.table.entries ∧
      numsOk r.table.table (splice (s.tables.nums r.table.table) r.index [r.value]) = true := by
    rw [patchOk, Bool.and_eq_true, decide_eq_true_iff]
    rfl
  unfold applyPatch patchStage
  by_cases h : patchOk r.table r.index r.value s = true
  · rw [if_pos h, if_pos (hok.mp h), writePatch_eq]
    rfl
  · rw [if_neg h, if_neg (mt hok.mpr h)]
    rfl

theorem applyPatches_eq : ∀ (l : List PatchRec) (s : State),
    l.foldl applyPatch s = withStage s (l.foldl patchStage (s.tables, s.startup.skipped))
  | [], _ => rfl
  | r :: l, s => by
    rw [List.foldl_cons, applyPatch_eq, applyPatches_eq l]
    rfl

theorem patchStage_valid {x : Tables × Nat} (hx : TablesValid x.1) (r : PatchRec) : TablesValid (patchStage x r).1 := by
  unfold patchStage
  dsimp only
  split
  next hok =>
    have hlen := hx.1.1 _ (patchTable_mem r.table)
    have hlen' : (splice (x.1.nums r.table.table) r.index [r.value]).length = r.table.table.entries := by
      rw [splice_length (by rw [hlen]; exact hok.1), hlen]
    exact hx.putNums (patchTable_mem r.table) hlen' ((numsOk_iff _ hlen').mp hok.2)
  next => exact hx

/-- A patch over valid tables is written where its table admits it, and otherwise counted. -/
theorem patchStage_cases {x : Tables × Nat} (hx : TablesValid x.1) (r : PatchRec) :
    let patched := (x.1.nums r.table.table).set r.index r.value
    (r.index < r.table.table.entries ∧ NumbersMeet r.table.table patched →
      patchStage x r = (x.1.putNums r.table.table patched, x.2)) ∧
    (¬(r.index < r.table.table.entries ∧ NumbersMeet r.table.table patched) → patchStage x r = (x.1, x.2 + 1)) := by
  have hlen := hx.1.1 _ (patchTable_mem r.table)
  unfold patchStage
  by_cases hi : r.index < r.table.table.entries
  · rw [splice_singleton (hi.trans_eq hlen.symm)]
    have hok := numsOk_iff r.table.table (l := (x.1.nums r.table.table).set r.index r.value) (by rw [List.length_set, hlen])
    exact ⟨fun h => if_pos ⟨h.1, hok.mpr h.2⟩, fun h => if_neg fun h' => h ⟨h'.1, hok.mp h'.2⟩⟩
  · exact ⟨fun h => absurd h.1 hi, fun _ => if_neg fun h => hi h.1⟩

/-- The tables and counts after 0, 1, 2, … records (R173). -/
theorem patchStages {x : Tables × Nat} (hx : TablesValid x.1) (l : List PatchRec) :
    ∃ stages : List (Tables × Nat), stages.length = l.length + 1 ∧ stages.head? = some x ∧
      stages.getLast? = some (l.foldl patchStage x) ∧
      ∀ (i : Nat) (r : PatchRec) (was now : Tables × Nat), l[i]? = some r → stages[i]? = some was →
        stages[i + 1]? = some now → TablesValid was.1 ∧ now = patchStage was r := by
  refine ⟨l.scanl patchStage x, List.length_scanl, List.head?_scanl, List.getLast?_scanl, ?_⟩
  have hvalid : ∀ (i : Nat) (was : Tables × Nat), (l.scanl patchStage x)[i]? = some was → TablesValid was.1 := by
    intro i
    induction i with
    | zero =>
      intro was hwas
      rw [← List.head?_eq_getElem?, List.head?_scanl, Option.some.injEq] at hwas
      exact hwas ▸ hx
    | succ i ih =>
      intro was hwas
      rw [List.getElem?_succ_scanl, Option.bind_eq_some_iff] at hwas
      obtain ⟨b, hb, hr⟩ := hwas
      obtain ⟨r, -, rfl⟩ := Option.map_eq_some_iff.mp hr
      exact patchStage_valid (ih b hb) r
  intro i r was now hr hwas hnow
  rw [List.getElem?_succ_scanl, hwas, hr] at hnow
  exact ⟨hvalid i was hwas, (Option.some.inj hnow).symm⟩

/-- Patches leave GLOBALS and the tables of records alone. -/
theorem patchStage_keeps (x : Tables × Nat) (r : PatchRec) :
    (patchStage x r).1.globals = x.1.globals ∧ (patchStage x r).1.speedCurve = x.1.speedCurve := by
  unfold patchStage
  dsimp only
  split
  · cases r.table <;> exact ⟨rfl, rfl⟩
  · exact ⟨rfl, rfl⟩

theorem patchStages_keep : ∀ (l : List PatchRec) (x : Tables × Nat),
    (l.foldl patchStage x).1.globals = x.1.globals ∧ (l.foldl patchStage x).1.speedCurve = x.1.speedCurve
  | [], _ => ⟨rfl, rfl⟩
  | r :: l, x => by
    obtain ⟨hg, hc⟩ := patchStages_keep l (patchStage x r)
    obtain ⟨hg', hc'⟩ := patchStage_keeps x r
    exact ⟨hg.trans hg', hc.trans hc'⟩

/-- The working patch list as LOAD takes it. -/
def loadedPatches (st : Store) : List PatchRec := if st.dealerState = .valid then st.dealer else []

theorem placePatches_valid {s : State} (hv : s.store.factoryState = .valid) :
    placePatches s = withStage (s.withPatches (loadedPatches s.store))
      ((loadedPatches s.store).foldl patchStage (s.tables, 0)) := by
  unfold placePatches
  dsimp only
  rw [if_pos hv, applyPatches_eq]
  rfl

theorem placePatches_invalid {s : State} (hv : s.store.factoryState ≠ .valid) :
    placePatches s = withStage (s.withPatches (loadedPatches s.store)) (s.tables, 0) := by
  unfold placePatches
  dsimp only
  rw [if_neg hv]
  rfl

/-! ## The scene (R173) -/

theorem capScene_length (cap : Int) (sc : Scene) : (capScene cap sc).length = sc.length := by simp [capScene]

theorem capScene_val (cap : Int) {sc : Scene} (h : sc.length = 17) (x : Setting) :
    (capScene cap sc).val x = if x = .volFront ∨ x = .volRear then min cap (sc.val x) else sc.val x := by
  unfold capScene Scene.val
  cases x <;> simp [List.getD_eq_getElem?_getD, h, Setting.index]

/-- The scene as LOAD places it. -/
def loadedScene (s : State) : Scene :=
  capScene (s.tables.global .startVolCap) (if s.store.startState = .valid then s.store.start else s.planner.live)

theorem placeScene_eq (s : State) :
    placeScene s = if (loadedScene s).val .sdvLevel = s.planner.live.val .sdvLevel then
        s.withPlanner { s.planner with live := loadedScene s }
      else recompute (s.withPlanner { s.planner with live := loadedScene s }) := rfl

theorem placeScene_planner (s : State) : (placeScene s).planner = { s.planner with live := loadedScene s } := by
  rw [placeScene_eq]
  split <;> rfl

theorem placeScene_tracker (s : State) :
    (placeScene s).tracker = if (loadedScene s).val .sdvLevel = s.planner.live.val .sdvLevel then s.tracker
      else derived s.tables (loadedScene s) s.tracker := by
  rw [placeScene_eq]
  split <;> rfl

/-- The scene that LOAD places has a value for each setting, both volumes under the cap. -/
theorem loadedScene_val {s : State} (hstart : s.store.start.length = 17) (hlive : s.planner.live.length = 17) :
    (loadedScene s).length = 17 ∧ ∀ x, (loadedScene s).val x =
      let scene := if s.store.startState = .valid then s.store.start else s.planner.live
      if x = .volFront ∨ x = .volRear then min (s.tables.global .startVolCap) (scene.val x) else scene.val x := by
  have hlen : (if s.store.startState = .valid then s.store.start else s.planner.live).length = 17 := by
    split <;> assumption
  exact ⟨(capScene_length _ _).trans hlen, capScene_val _ hlen⟩

/-! ## The end of LOADING (R174) -/

theorem endLoading_startup (s : State) :
    (endLoading s).startup = { s.startup with
      state := if s.store.factoryState = .valid then .running else .tuneless } := by
  unfold endLoading
  split
  · exact (post_only _ _).startup
  · exact (post_only _ _).startup

theorem endLoading_output (s : State) :
    (endLoading s).output =
      if s.store.factoryState = .valid then s.output.map (OutChan.removeReason .startup) else s.output := by
  unfold endLoading
  split
  · exact (post_only _ _).output
  · exact (post_only _ _).output

theorem endLoading_postsJust (s : State) : PostsJust [.ready] s (endLoading s) := by
  unfold endLoading
  split
  · exact (PostsJust.post _ _).after rfl
  · exact (PostsJust.post _ _).after rfl

/-! ## LOAD's completion from its third step on -/

/-- The scene placed, LOADING ended, and what waits at the freed controller begun. -/
def finishLoad (s : State) : State := grantNext (endLoading (placeScene s))

theorem finishLoad_only (s : State) :
    Only [.planner, .tracker, .startup, .output, .integrity, .read, .store, .link] s (finishLoad s) :=
  ((placeScene_only s).comp (endLoading_only _) (n := [.planner, .tracker, .startup, .output, .link])).comp
    (grantNext_only _)

theorem finishLoad_planner (s : State) : (finishLoad s).planner = { s.planner with live := loadedScene s } := by
  rw [finishLoad, (grantNext_only _).planner, (endLoading_only _).planner, placeScene_planner]

theorem finishLoad_tracker (s : State) :
    (finishLoad s).tracker = if (loadedScene s).val .sdvLevel = s.planner.live.val .sdvLevel then s.tracker
      else derived s.tables (loadedScene s) s.tracker := by
  rw [finishLoad, (grantNext_only _).tracker, (endLoading_only _).tracker, placeScene_tracker]

theorem finishLoad_startup (s : State) :
    (finishLoad s).startup = { s.startup with
      state := if s.store.factoryState = .valid then .running else .tuneless } := by
  rw [finishLoad, (grantNext_only _).startup, endLoading_startup, (placeScene_only s).startup, (placeScene_only s).store]

theorem finishLoad_output (s : State) :
    (finishLoad s).output =
      if s.store.factoryState = .valid then s.output.map (OutChan.removeReason .startup) else s.output := by
  rw [finishLoad, (grantNext_only _).output, endLoading_output, (placeScene_only s).output, (placeScene_only s).store]

theorem finishLoad_begins {s : State} (hread : s.read = none) (hidle : s.store.running = none) :
    Begins s.integrity s.store (finishLoad s) ∧ PostsJust (.ready :: beginPosts s.integrity) s (finishLoad s) := by
  have hscene := placeScene_only s
  have hend := endLoading_only (placeScene s)
  have hposts := (endLoading_postsJust (placeScene s)).after hscene.link
  obtain ⟨hbegin, hgrant⟩ := grantNext_begins (s := endLoading (placeScene s)) (by rw [hend.read, hscene.read, hread])
    (by rw [hend.store, hscene.store, hidle])
  rw [hend.integrity, hscene.integrity, hend.store, hscene.store] at hbegin
  rw [hend.integrity, hscene.integrity] at hgrant
  refine ⟨hbegin, hposts.trans hgrant fun n hn => ?_⟩
  have hcoeff : n = .coeffState := by simpa using (List.mem_ite_nil_left.mp hn).2
  simp [hcoeff]

/-- The state with LOAD's operation done. -/
def loadFreed (s : State) : State := s.withStore { s.store with running := none }

theorem completeLoad_eq {s : State} (hload : s.store.running = some .load) :
    completeLoad s = finishLoad (placePatches
      (if s.store.factoryState = .valid then placeFactory s.store.factory (loadFreed s) else loadFreed s)) := if_pos hload

end Sys2Proof
end

section
/-! SUPPORT. The statement on LOAD: the two ways in which it ends. -/

set_option Elab.async false

namespace Sys2Proof

open Sys2Proof.Machine

/-- The stored tables and sets placed. -/
def loadPlaced (s : State) : State := placeFactory s.store.factory (loadFreed s)

/-- The tables and the count of skipped patches that LOAD leaves from a VALID region. -/
def loadStages (s : State) : Tables × Nat := (loadedPatches s.store).foldl patchStage (s.store.factory.tables, 0)

/-- The state before the scene, without a VALID region. -/
def loadUnplaced (s : State) : State := withStage ((loadFreed s).withPatches (loadedPatches s.store)) (s.tables, 0)

theorem loadUnplaced_only (s : State) : Only [.patches, .startup, .store] s (loadUnplaced s) :=
  ((withStore_only s _).comp (withPatches_only _ _) (n := [.patches, .store])).comp (withStartup_only _ _)

theorem loadUnplaced_store (s : State) : (loadUnplaced s).store = { s.store with running := none } := rfl

theorem loadUnplaced_patches (s : State) : (loadUnplaced s).patches = loadedPatches s.store := rfl

theorem loadUnplaced_skipped (s : State) : (loadUnplaced s).startup.skipped = 0 := rfl

/-- LOAD's completion without a VALID region. -/
theorem completeLoad_invalid {s : State} (hload : s.store.running = some .load) (hv : s.store.factoryState ≠ .valid) :
    completeLoad s = finishLoad (loadUnplaced s) := by
  rw [completeLoad_eq hload, if_neg hv, placePatches_invalid (s := loadFreed s) hv]
  rfl

theorem loadPlaced_store (s : State) : (loadPlaced s).store = { s.store with running := none } :=
  (placeFactory_only _ _).store

/-- The state before the scene, from a VALID region. -/
def loadPatched (s : State) : State := withStage ((loadPlaced s).withPatches (loadedPatches s.store)) (loadStages s)

theorem loadPatched_only (s : State) : Only [.tables, .patches, .startup] (loadPlaced s) (loadPatched s) :=
  ((withPatches_only _ _).comp (withTables_only _ _) (n := [.tables, .patches])).comp (withStartup_only _ _)

/-- LOAD's completion from a VALID region. -/
theorem completeLoad_valid {s : State} (hload : s.store.running = some .load) (hv : s.store.factoryState = .valid) :
    completeLoad s = finishLoad (loadPatched s) := by
  rw [completeLoad_eq hload, if_pos hv, ← loadPlaced, placePatches_valid (by rw [loadPlaced_store]; exact hv),
    loadPlaced_store, loadPlaced, placeFactory_tables]
  rfl

theorem loadPlaced_eq (s : State) :
    loadPlaced s = writeSets false 0 (s.store.factory.sets.map (·.words)) (placedStage s.store.factory (loadFreed s)) :=
  placeFactory_eq _ _

/-- The stored tables placed, the sets still as they were. -/
def loadTables (s : State) : State := placedStage s.store.factory (loadFreed s)

theorem loadTables_only (s : State) :
    Only [.tables, .ramp, .tracker, .arbiter, .output, .store, .link] s (loadTables s) :=
  (withStore_only s _).comp (placedStage_only _ _)

theorem loadPlaced_only (s : State) :
    Only [.integrity, .output, .read, .link] (loadTables s) (loadPlaced s) := by
  rw [loadPlaced_eq]
  exact writeSets_only _ _ _ _

theorem loadTables_coeffSet (s : State) : (loadTables s).coeffSet = s.coeffSet := by
  unfold State.coeffSet
  rw [(loadTables_only s).integrity]

/-- A channel after the acts of the stored routes and delays (R65, R70). -/
def loadedChan (s : State) (c : Nat) : OutChan :=
  ((s.outChan c).writeEnabled (s.tables.routeOf c).enabled (s.store.factory.tables.routeOf c).enabled).writeDelay
    (s.line c).applied (s.store.factory.tables.delay.getD c 0).toNat

theorem loadTables_outChan {s : State} (hout : s.output.length = 24) {c : Nat} (hc : c < 24) :
    (loadTables s).outChan c = loadedChan s c := placedStage_outChan _ hc hout

section
variable {s : State} (hq : QueueOk s) (hread : s.read = none) (hlen : s.store.factory.sets.length = 344)
include hq hread hlen

theorem loadPlaced_integrity :
    (loadPlaced s).integrity = { s.integrity with
      sets := s.store.factory.sets.map fun e => placedSet e.words, queue := []
      last := ((notGood s 0 344).getLast?.map fun j => ⟨j, .good, false⟩).or s.integrity.last } := by
  have hp := loadTables_only s
  have hq' : QueueOk (loadTables s) := by
    unfold QueueOk
    rw [hp.integrity, loadTables_coeffSet]
    exact hq
  have hnot : notGood (loadTables s) 0 344 = notGood s 0 344 := by rw [notGood, loadTables_coeffSet, notGood]
  rw [loadPlaced_eq, ← loadTables, writeSets_all hq' (hp.read.trans hread) (by rw [List.length_map, hlen]), hnot,
    hp.integrity, List.map_map]
  rfl

/-- FAULT has gone with the sets of the channel (R153, R173). -/
theorem loadPlaced_outChan (hout : s.output.length = 24) {c : Nat} (hc : c < 24) :
    (FixedBad s c → (loadPlaced s).outChan c = (loadedChan s c).removeReason .fault) ∧
      (¬FixedBad s c → (loadPlaced s).outChan c = loadedChan s c) := by
  have hp := loadTables_only s
  have hbad : FixedBad (loadTables s) c ↔ FixedBad s c := by rw [FixedBad, loadTables_coeffSet, FixedBad]
  have hchan := writeSets_outChan (s.store.factory.sets.map (·.words)) (i := 0) (s := loadTables s)
    (by rw [hp.integrity]; exact hq.1) ((placedStage_output_length _ _).trans hout) (hp.read.trans hread)
    (by rw [List.length_map, hlen]) (by simp) hc
  rw [hbad, loadTables_outChan hout hc, loadTables, ← loadPlaced_eq] at hchan
  exact hchan

end

theorem notGood_all (s : State) : notGood s 0 344 = (List.range 344).filter fun i => (s.coeffSet i).state ≠ .good := by
  rw [notGood, List.range_eq_range']

/-- What the placement posts (R84, R119, R160). -/
def loadPosts (s : State) : List Notice :=
  (if arbitrated s.store.factory.tables s.arbiter = s.arbiter then [] else [.annState]) ++
    (if s.store.factory.tables.global .speedSource ≠ s.tables.global .speedSource then [.speedState] else []) ++
    (if notGood s 0 344 = [] then [] else [.coeffState])

theorem mem_loadPosts {s : State} {n : Notice} (h : n ∈ loadPosts s) : n = .annState ∨ n = .speedState ∨ n = .coeffState := by
  unfold loadPosts at h
  simp only [List.mem_append, List.mem_ite_nil_left, List.mem_ite_nil_right, List.mem_singleton, or_assoc] at h
  obtain ⟨-, h⟩ | ⟨-, h⟩ | ⟨-, h⟩ := h
  · exact .inl h
  · exact .inr (.inl h)
  · exact .inr (.inr h)

theorem loadPlaced_postsJust {s : State} (hread : s.read = none) (hlen : s.store.factory.sets.length = 344) :
    PostsJust (loadPosts s) s (loadPlaced s) := by
  have hp := loadTables_only s
  have hnot : notGood (loadTables s) 0 344 = notGood s 0 344 := by rw [notGood, loadTables_coeffSet, notGood]
  have htables : PostsJust _ s (loadTables s) := (placedStage_postsJust s.store.factory (loadFreed s)).after rfl
  have hsets := writeSets_postsJust (s.store.factory.sets.map (·.words)) (i := 0) (hp.read.trans hread)
  rw [List.length_map, hlen, hnot, loadTables, ← loadPlaced_eq] at hsets
  refine htables.trans hsets fun n hn hbefore => ?_
  have hcoeff : n = .coeffState := by simpa using (List.mem_ite_nil_left.mp hn).2
  subst hcoeff
  obtain h | h := List.mem_append.mp hbefore
  · cases List.mem_singleton.mp (List.mem_ite_nil_left.mp h).2
  · cases List.mem_singleton.mp (List.mem_ite_nil_right.mp h).2

theorem loadPlaced_read {s : State} (hread : s.read = none) : (loadPlaced s).read = none := by
  rw [loadPlaced_eq]
  exact writeSets_read _ _ ((loadTables_only s).read.trans hread)

theorem loadPlaced_output_length {s : State} (hread : s.read = none) :
    (loadPlaced s).output.length = s.output.length := by
  rw [loadPlaced_eq, writeSets_output_length]
  · exact placedStage_output_length _ _
  · exact (loadTables_only s).read.trans hread

theorem loadPlaced_planner (s : State) : (loadPlaced s).planner = s.planner :=
  (loadPlaced_only s).planner.trans (loadTables_only s).planner

theorem globals_global {t t' : Tables} (h : t.globals = t'.globals) (g : Global) : t.global g = t'.global g := by
  rw [Tables.global, h, Tables.global]

theorem loadTables_tracker (s : State) : (loadTables s).tracker =
    derived s.store.factory.tables s.planner.live (switchedTracker s.tables s.store.factory.tables s.tracker) :=
  placedStage_tracker _ _

/-- The boosts follow the stored curve and divider and the scene that LOAD places (R92). -/
theorem finishLoad_loadPatched_tracker (s : State) :
    (finishLoad (loadPatched s)).tracker = derived s.store.factory.tables (loadedScene (loadPatched s))
      (switchedTracker s.tables s.store.factory.tables s.tracker) := by
  obtain ⟨hglobals, hcurve⟩ := patchStages_keep (loadedPatches s.store) (s.store.factory.tables, 0)
  have htracker : (loadPatched s).tracker = derived s.store.factory.tables s.planner.live
      (switchedTracker s.tables s.store.factory.tables s.tracker) :=
    ((loadPatched_only s).tracker.trans (loadPlaced_only s).tracker).trans (loadTables_tracker s)
  have hlive : (loadPatched s).planner.live = s.planner.live := congrArg _ (loadPlaced_planner s)
  rw [finishLoad_tracker, htracker, hlive]
  split
  next h => exact derived_congr rfl rfl h.symm _
  next => exact derived_congr hcurve (globals_global hglobals _) rfl _

/-- A channel once LOAD has ended in RUNNING: STARTUP has left it too (R174). -/
theorem finishLoad_loadPatched_outChan {s : State} (hq : QueueOk s) (hread : s.read = none)
    (hlen : s.store.factory.sets.length = 344) (hout : s.output.length = 24) (hv : s.store.factoryState = .valid) {c : Nat}
    (hc : c < 24) : ∃ o, (finishLoad (loadPatched s)).outChan c = o.removeReason .startup ∧
      (FixedBad s c → o = (loadedChan s c).removeReason .fault) ∧ (¬FixedBad s c → o = loadedChan s c) := by
  refine ⟨_, ?_, loadPlaced_outChan hq hread hlen hout hc⟩
  rw [State.outChan, finishLoad_output, (loadPatched_only s).output, (loadPatched_only s).store, loadPlaced_store, if_pos hv]
  exact getD_map_of_lt (hc.trans_eq ((loadPlaced_output_length hread).trans hout).symm) _ _ _

theorem loadPlaced_ramp (s : State) : (loadPlaced s).ramp = { s.ramp with divider := 0 } :=
  (loadPlaced_only s).ramp.trans (placedStage_ramp _ _)

theorem loadPlaced_arbiter (s : State) : (loadPlaced s).arbiter = arbitrated s.store.factory.tables s.arbiter :=
  (loadPlaced_only s).arbiter.trans (placedStage_arbiter _ _)

/-- Without a VALID region LOAD leaves the working values alone (R173). -/
theorem finishLoad_loadUnplaced {s : State} (hv : s.store.factoryState ≠ .valid) :
    let t := finishLoad (loadUnplaced s)
    t.tables = s.tables ∧ t.startup.skipped = 0 ∧ t.output = s.output ∧ t.arbiter = s.arbiter ∧ t.ramp = s.ramp ∧
      t.tracker = if (loadedScene (loadUnplaced s)).val .sdvLevel = s.planner.live.val .sdvLevel then s.tracker
        else derived s.tables (loadedScene (loadUnplaced s)) s.tracker := by
  have hfinish := finishLoad_only (loadUnplaced s)
  have hu := loadUnplaced_only s
  refine ⟨hfinish.tables.trans hu.tables, ?_, ?_, hfinish.arbiter.trans hu.arbiter, hfinish.ramp.trans hu.ramp, ?_⟩
  · rw [finishLoad_startup, loadUnplaced_skipped]
  · rw [finishLoad_output, loadUnplaced_store, if_neg hv, hu.output]
  · rw [finishLoad_tracker, hu.tracker, hu.tables, hu.planner]

/-- What both ends of LOAD have in common, over the state `u` before the scene: where LOADING ends, the patch list, the scene,
and what the freed controller begins. -/
theorem loadComplete_ends {s u : State} (ha : Awake s) (hshape : ShapeOk s) (heq : completeLoad s = finishLoad u)
    (hread : u.read = none) (hstore : u.store = { s.store with running := none }) (hplanner : u.planner = s.planner)
    (hpatches : u.patches = loadedPatches s.store) {ns : List Notice} (hposts : PostsJust ns s u)
    (hready : ∀ n ∈ Notice.ready :: beginPosts u.integrity, n ∉ ns) (hclip : Notice.clip ∉ ns) :
    let scene := if s.store.startState = .valid then s.store.start else s.planner.live
    ∃ t, exec .loadComplete s = .next t ∧
      Only [.tables, .planner, .ramp, .output, .tracker, .arbiter, .integrity, .read, .store, .patches, .startup, .link]
        s t ∧
      t.startup.state = (if s.store.factoryState = .valid then .running else .tuneless) ∧
      t.patches = loadedPatches s.store ∧
      (t.planner = { s.planner with live := t.planner.live } ∧ t.planner.live.length = 17 ∧
        ∀ x : Setting, t.planner.live.val x =
          if x = .volFront ∨ x = .volRear then min (t.tables.global .startVolCap) (scene.val x) else scene.val x) ∧
      Only [.link] (finishLoad u) t ∧ t.planner.live = loadedScene u ∧
      Begins u.integrity { s.store with running := none } t ∧
      Sends s.link t [] (ns ++ .ready :: beginPosts u.integrity) := by
  have honly := finishLoad_only u
  obtain ⟨hbegins, hfinish⟩ := finishLoad_begins hread (by rw [hstore])
  have hall := heq ▸ hposts.trans hfinish hready
  obtain ⟨t, hx, ho, hsends⟩ := event_sends ha hall (by
    rw [List.mem_append, not_or]
    refine ⟨hclip, ?_⟩
    unfold beginPosts
    split <;> simp)
  obtain ⟨hlen, hval⟩ := loadedScene_val (s := u) (by rw [hstore]; exact hshape.2.2.2.2.1.1) (by rw [hplanner]; exact hshape.1.1)
  have hlive : t.planner = { u.planner with live := loadedScene u } := by
    rw [ho.planner, heq, finishLoad_planner]
  have htables : t.tables = u.tables := by rw [ho.tables, heq, honly.tables]
  have ho' := heq ▸ ho
  refine ⟨t, hx, (completeLoad_only s).comp ho, ?_, ?_, ⟨?_, ?_, fun x => ?_⟩, ho', ?_, ?_, hsends⟩
  · rw [ho'.startup, finishLoad_startup, hstore]
  · rw [ho'.patches, honly.patches, hpatches]
  · rw [hlive, hplanner]
  · rw [hlive]
    exact hlen
  · rw [hlive, htables]
    refine (hval x).trans ?_
    rw [hstore, hplanner]
  · rw [hlive]
  · rw [← hstore]
    exact hbegins.of_frame ho'

theorem map_or_eq_match (o : Option Nat) (d : Option Transition) :
    (o.map fun j => (⟨j, .good, false⟩ : Transition)).or d =
      match o with
      | some i => some ⟨i, .good, false⟩
      | none => d := by
  cases o <;> rfl

/-- Settles O57: the end without a VALID region, and the end with one. -/
theorem loadEndsLoading : Obligations.LoadEndsLoading := by
  intro s ha hshape ht hq hro hload
  have hread : s.read = none := by
    by_contra h
    rw [hro.1.mp h] at hload
    cases hload
  dsimp only
  by_cases hv : s.store.factoryState = .valid
  · have hsets : s.store.factory.sets.length = 344 := hshape.2.2.2.2.1.2
    have hout : s.output.length = 24 := hshape.2.1.2.2.1
    have hint := loadPlaced_integrity hq hread hsets
    rw [← (loadPatched_only s).integrity] at hint
    have hnotices := (loadPlaced_postsJust hread hsets).then (loadPatched_only s).link
    obtain ⟨t, hx, honly, hstate, hpatches, hscene, ho, hlive, hbegins, hsends⟩ := loadComplete_ends ha hshape
      (completeLoad_valid hload hv) (loadPlaced_read hread) (loadPlaced_store s) (loadPlaced_planner s) rfl hnotices
      (by rw [hint]; exact fun n hn hmem => by cases List.mem_singleton.mp hn; simpa using mem_loadPosts hmem)
      (fun hmem => by simpa using mem_loadPosts hmem)
    have hfinish := finishLoad_only (loadPatched s)
    have harbiter : t.arbiter = arbitrated s.store.factory.tables s.arbiter := by
      rw [ho.arbiter, hfinish.arbiter, (loadPatched_only s).arbiter, loadPlaced_arbiter]
    refine ⟨t, hx, honly, hstate, hpatches, hscene, fun h => absurd hv h, fun _ => ⟨?_, fun c hc => ?_, ?_, ?_, ?_, ?_, ?_⟩⟩
    · obtain ⟨stages, hlen, hhead, hlast, hstep⟩ := patchStages (x := (s.store.factory.tables, 0)) (ht.2.1 hv)
        (loadedPatches s.store)
      refine ⟨stages, hlen, hhead, ?_, fun i r was now hr hwas hnow => ?_⟩
      · rw [hlast, ho.tables, hfinish.tables, ho.startup, finishLoad_startup]
        rfl
      · obtain ⟨hvalid, rfl⟩ := hstep i r was now hr hwas hnow
        exact patchStage_cases hvalid r
    · obtain ⟨o, hchan, hmended, hkept⟩ := finishLoad_loadPatched_outChan hq hread hsets hout hv hc
      rw [loadedChan, writeDelay_eq, writeEnabled_eq] at hmended hkept
      refine (ho.outChan c).trans (hchan.trans (congrArg (OutChan.removeReason .startup) ?_))
      by_cases hb : FixedBad s c
      · exact (hmended hb).trans (if_pos hb).symm
      · exact (hkept hb).trans (if_neg hb).symm
    · rw [ho.ramp, hfinish.ramp, (loadPatched_only s).ramp, loadPlaced_ramp]
    · exact harbiter
    · rw [ho.tracker, finishLoad_loadPatched_tracker, ← hlive]
      rfl
    · rw [hint, map_or_eq_match, notGood_all] at hbegins
      exact hbegins
    · rw [hint, loadPosts, notGood_all] at hsends
      rw [harbiter]
      exact hsends
  · have hu := loadUnplaced_only s
    obtain ⟨t, hx, honly, hstate, hpatches, hscene, ho, hlive, hbegins, hsends⟩ := loadComplete_ends ha hshape
      (completeLoad_invalid hload hv) (hu.read.trans hread) (loadUnplaced_store s) hu.planner (loadUnplaced_patches s)
      (.of_link hu.link) (fun _ _ => List.not_mem_nil) List.not_mem_nil
    obtain ⟨htables, hskipped, houtput, harbiter, hramp, htracker⟩ := finishLoad_loadUnplaced hv
    rw [← hlive] at htracker
    rw [hu.integrity] at hbegins hsends
    refine ⟨t, hx, honly, hstate, hpatches, hscene, fun _ => ⟨ho.tables.trans htables, ?_, ho.output.trans houtput,
      ho.arbiter.trans harbiter, ho.ramp.trans hramp, ho.tracker.trans htracker, hbegins, hsends⟩, fun h => absurd h hv⟩
    rw [ho.startup, hskipped]

end Sys2Proof
end

section
/-! SUPPORT. The targets that the planner computes, and the gain words that the sample plane plays them with. -/

set_option Elab.async false

namespace Sys2Proof

open Sys2Proof.Machine

/-! ## What a channel follows (R25, R26) -/

theorem volumeStep_eq (live : Scene) (r : Route) :
    volumeStep live r =
      if live.val .zoneMode = 1 ∧ r.zone = .rear then live.val .volRear else live.val .volFront := by
  simp only [volumeStep, followsRear_iff]

theorem muted_iff (live : Scene) (r : Route) :
    muted live r = true ↔
      (if live.val .zoneMode = 1 ∧ r.zone = .rear then live.val .muteRear else live.val .muteFront) = 1 := by
  simp only [muted, followsRear_iff]
  split <;> exact decide_eq_true_iff

theorem effectiveFade_eq (live : Scene) :
    effectiveFade live = if live.val .zoneMode = 1 then 0 else live.val .fade := by
  simp only [effectiveFade, separate, decide_eq_true_iff]

/-! ## The steps of the programme target (R37 to R41) -/

theorem balanceAtt_eq (t : Tables) (b : Int) (r : Route) :
    balanceAtt t b r =
      if r.exempt = true ∨ b = 0 then 0
      else if r.side = .centre then t.balance.getD b.natAbs 0 / 2
      else if (r.side = .left ∧ 0 < b) ∨ (r.side = .right ∧ b < 0) then t.balance.getD b.natAbs 0 else 0 := by
  simp only [balanceAtt, Bool.or_eq_true, decide_eq_true_iff]
  cases r.side <;> simp

theorem fadeAtt_eq (t : Tables) (f : Int) (r : Route) :
    fadeAtt t f r =
      if r.exempt = true ∨ f = 0 then 0
      else if r.row = .mid then t.fade.getD f.natAbs 0 / 2
      else if (r.row = .back ∧ 0 < f) ∨ (r.row = .front ∧ f < 0) then t.fade.getD f.natAbs 0 else 0 := by
  simp only [fadeAtt, Bool.or_eq_true, decide_eq_true_iff]
  cases r.row <;> simp

/-- The ceiling first and then the floor (R41, R43). -/
theorem limitTarget_eq (ceiling v : Int) : limitTarget ceiling v = max (-480) (min ceiling v) := by
  unfold limitTarget
  split <;> omega

/-- A class that is ACTIVE reaches a seat of a channel (R40, R42). -/
def ReachesSeat (s : State) (r : Route) (k : AnnClass) : Prop :=
  ∃ seats, activeSeats s k = some seats ∧ seats.meet r.seats = true

/-- One class in the search for the largest duck. -/
def duckStep (s : State) (r : Route) (d : Int) (k : AnnClass) : Int :=
  match activeSeats s k with
  | some seats => if seats.meet r.seats then max d (s.tables.classEntry k).duck else d
  | none => d

theorem duckOf_eq (s : State) (r : Route) : duckOf s r = AnnClass.all.foldl (duckStep s r) 0 := rfl

theorem duckStep_of_reaches {s : State} {r : Route} {k : AnnClass} (h : ReachesSeat s r k) (d : Nat) :
    duckStep s r d k = (max d (s.tables.classEntry k).duck : Nat) := by
  obtain ⟨seats, hseats, hmeet⟩ := h
  simp only [duckStep, hseats, hmeet, if_true, Nat.cast_max]

theorem duckStep_of_not_reaches {s : State} {r : Route} {k : AnnClass} (h : ¬ReachesSeat s r k) (d : Int) :
    duckStep s r d k = d := by
  unfold duckStep
  split
  next seats hseats => exact if_neg fun hmeet => h ⟨seats, hseats, hmeet⟩
  next => rfl

/-- The search ends at the largest duck of the classes searched that reach the channel, or where it began. -/
theorem duckSearch_spec (s : State) (r : Route) : ∀ (l : List AnnClass) (d₀ : Nat),
    ∃ d : Nat, l.foldl (duckStep s r) d₀ = d ∧ d₀ ≤ d ∧
      (∀ k ∈ l, ReachesSeat s r k → (s.tables.classEntry k).duck ≤ d) ∧
      (d = d₀ ∨ ∃ k, ReachesSeat s r k ∧ d = (s.tables.classEntry k).duck)
  | [], d₀ => ⟨d₀, rfl, le_rfl, nofun, .inl rfl⟩
  | k :: l, d₀ => by
    by_cases hk : ReachesSeat s r k
    · obtain ⟨d, hfold, hle, hall, hat⟩ := duckSearch_spec s r l (max d₀ (s.tables.classEntry k).duck)
      rw [List.foldl_cons, duckStep_of_reaches hk]
      refine ⟨d, hfold, (le_max_left _ _).trans hle, List.forall_mem_cons.mpr ⟨fun _ => (le_max_right _ _).trans hle, hall⟩, ?_⟩
      obtain hat | hat := hat
      · obtain hmax | hmax := max_choice d₀ (s.tables.classEntry k).duck
        · exact .inl (hat.trans hmax)
        · exact .inr ⟨k, hk, hat.trans hmax⟩
      · exact .inr hat
    · obtain ⟨d, hfold, hle, hall, hat⟩ := duckSearch_spec s r l d₀
      rw [List.foldl_cons, duckStep_of_not_reaches hk]
      exact ⟨d, hfold, hle, List.forall_mem_cons.mpr ⟨fun h => absurd h hk, hall⟩, hat⟩

theorem mem_annClass_all (k : AnnClass) : k ∈ AnnClass.all := by cases k <;> decide

/-- The duck is the largest of an ACTIVE class that reaches the channel, and 0 where there is none (R40). -/
theorem duckOf_spec (s : State) (r : Route) :
    ∃ d : Nat, duckOf s r = d ∧ (∀ k, ReachesSeat s r k → (s.tables.classEntry k).duck ≤ d) ∧
      (d = 0 ∨ ∃ k, ReachesSeat s r k ∧ d = (s.tables.classEntry k).duck) := by
  obtain ⟨d, hfold, -, hall, hat⟩ := duckSearch_spec s r AnnClass.all 0
  rw [duckOf_eq]
  exact ⟨d, hfold, fun k => hall k (mem_annClass_all k), hat⟩

/-- Settles O19: silence at its three conditions, and otherwise the sum of the steps under the limits. -/
theorem programmeTargetRule : Obligations.ProgrammeTargetRule := by
  intro s c
  refine ⟨fun hsilent => ?_, fun hv hmute hgv => ?_⟩
  · rw [← volumeStep_eq, ← muted_iff] at hsilent
    exact if_pos hsilent
  · rw [← volumeStep_eq] at hv hgv
    obtain ⟨d, hduck, hall, hat⟩ := duckOf_spec s (s.tables.routeOf c)
    refine ⟨d, hall, hat, ?_⟩
    have hsounds : progTarget s c = limitTarget _ _ :=
      if_neg (not_or.mpr ⟨hv, not_or.mpr ⟨fun h => hmute ((muted_iff _ _).mp h), hgv⟩⟩)
    rw [hsounds, limitTarget_eq, hduck, balanceAtt_eq, fadeAtt_eq, effectiveFade_eq, volumeStep_eq, kneeBoost, shareOf,
      boostShare]

/-! ## The slot targets (R42, R43) -/

theorem roles_seats_eq (driverSide : Int) (r : Roles) :
    r.seats driverSide = ⟨if driverSide ≠ 1 then r.driver else r.codriver, if driverSide ≠ 1 then r.codriver else r.driver,
      r.rearLeft, r.rearRight⟩ := by
  by_cases h : driverSide = 1 <;> simp [Roles.seats, h]

theorem slotTarget_active {s : State} {k : Slot} {x : AnnClass} (h : s.arbiter.slots.get k = .active x) (c : Nat) :
    slotTarget s k c =
      if ((s.arbiter.classes.get x).roles.seats (s.planner.live.val .driverSide)).meet (s.tables.routeOf c).seats = true ∧
          0 < s.planner.live.val x.volume then
        limitTarget (s.tables.ceiling.getD c 0) (s.tables.annVolume.getD (s.planner.live.val x.volume).toNat (-480) +
          s.tables.annTrim.getD c 0 + shareOf s c)
      else -480 := by
  simp only [slotTarget, h]

theorem slotTarget_silent {s : State} {k : Slot} (h : ∀ x, s.arbiter.slots.get k ≠ .active x) (c : Nat) :
    slotTarget s k c = -480 := by
  unfold slotTarget
  split
  next x hx => exact absurd hx (h x)
  next => rfl

/-- Settles O20: the target of an ACTIVE slot, and that nothing but what the rule names enters it. -/
theorem slotTargetRule : Obligations.SlotTargetRule := by
  refine ⟨fun s k c => ?_, fun s t k c htables harbiter hboost hside hvolume => ?_⟩
  · split
    next x hx =>
      dsimp only
      rw [slotTarget_active hx, roles_seats_eq, limitTarget_eq, shareOf, boostShare]
    next hother => exact slotTarget_silent hother c
  · have hshare : shareOf t c = shareOf s c := by rw [shareOf, shareOf, hboost, htables]
    by_cases hactive : ∃ x, s.arbiter.slots.get k = .active x
    · obtain ⟨x, hx⟩ := hactive
      rw [slotTarget_active hx, slotTarget_active (harbiter ▸ hx), harbiter, htables, hside, hvolume, hshare]
    · have hsilent := not_exists.mp hactive
      rw [slotTarget_silent hsilent, slotTarget_silent (by rw [harbiter]; exact hsilent)]

/-! ## The conversion table (R44) -/

/-- Twice the power that the gain word of entry `i` stands for, to the 80th, in whole numbers. -/
theorem twice_gain_pow (i : ℕ) :
    (2 * ((2 : ℝ) ^ 20 * (10 : ℝ) ^ (((i : ℝ) - 479) / 80))) ^ 80 * 10 ^ 479 = 2 ^ 1680 * 10 ^ i := by
  have hroot : ((10 : ℝ) ^ (((i : ℝ) - 479) / 80)) ^ 80 * 10 ^ 479 = 10 ^ i := by
    rw [← Real.rpow_mul_natCast (by norm_num), ← Real.rpow_natCast 10 479, ← Real.rpow_natCast 10 i,
      ← Real.rpow_add (by norm_num)]
    congr 1
    push_cast
    ring
  rw [← hroot, show (2 : ℝ) ^ 1680 = (2 * 2 ^ 20) ^ 80 from by rw [← pow_succ', ← pow_mul], ← mul_assoc, ← mul_assoc,
    mul_pow]

/-- A word lies within a half of that power, seen in whole numbers: the 80th powers of 2w − 1 and 2w + 1 enclose it. -/
def EnclosesPower (w i : ℕ) : Prop :=
  1 ≤ w ∧ (2 * w - 1) ^ 80 * 10 ^ 479 ≤ 2 ^ 1680 * 10 ^ i ∧ 2 ^ 1680 * 10 ^ i < (2 * w + 1) ^ 80 * 10 ^ 479

/-- The word that encloses the power is the nearest whole number to it. -/
theorem round_eq_of_enclosesPower {w i : ℕ} (h : EnclosesPower w i) :
    round ((2 : ℝ) ^ 20 * (10 : ℝ) ^ (((i : ℝ) - 479) / 80)) = w := by
  obtain ⟨hw, hlow, hhigh⟩ := h
  have hpow := twice_gain_pow i
  have hpos : (0 : ℝ) ≤ 2 * ((2 : ℝ) ^ 20 * (10 : ℝ) ^ (((i : ℝ) - 479) / 80)) := by positivity
  have hten : (0 : ℝ) < 10 ^ 479 := by positivity
  generalize (2 : ℝ) ^ 20 * (10 : ℝ) ^ (((i : ℝ) - 479) / 80) = x at hpow hpos ⊢
  have hlow' : ((2 * w - 1 : ℕ) : ℝ) ≤ 2 * x := by
    refine le_of_pow_le_pow_left₀ (n := 80) (by decide) hpos (le_of_mul_le_mul_right ?_ hten)
    rw [hpow]
    exact_mod_cast hlow
  have hhigh' : 2 * x < ((2 * w + 1 : ℕ) : ℝ) := by
    refine lt_of_pow_lt_pow_left₀ 80 (by positivity) (lt_of_mul_lt_mul_right ?_ hten.le)
    rw [hpow]
    exact_mod_cast hhigh
  rw [round_eq, Int.floor_eq_iff]
  rw [Nat.cast_sub (by omega)] at hlow'
  push_cast at hlow' hhigh' ⊢
  exact ⟨by linarith only [hlow'], by linarith only [hhigh']⟩

/-- Every entry of the table, by evaluation. -/
theorem gainWords_enclosePower : ∀ i < 528, EnclosesPower (gainWords.getD i 0) i := by
  unfold EnclosesPower
  decide +kernel

/-- Settles O60: entry `a + 479` encloses the power at `a`. -/
theorem gainWordsAreRounded : Obligations.GainWordsAreRounded := by
  refine ⟨rfl, fun a hlow hhigh => ?_⟩
  obtain ⟨i, rfl⟩ : ∃ i : ℕ, a = i - 479 := ⟨(a + 479).toNat, by omega⟩
  have hword : gainWord (i - 479) = gainWords.getD i 0 := by
    rw [gainWord, if_neg (by omega), show ((i : ℤ) - 479 + 479).toNat = i by omega]
  have hround := round_eq_of_enclosesPower (gainWords_enclosePower i (by omega))
  rw [hword, ← hround]
  push_cast
  rfl

end Sys2Proof
end

section
/-! SUPPORT. What SET, COMMIT and QUERY answer, and what the commit takes. -/

set_option Elab.async false

namespace Sys2Proof

open Sys2Proof.Machine

/-! ## The pairs of a SET (R24, R190) -/

/-- The pairs that a SET payload carries, as its handling reads them. -/
def sentPairs (pairs : List (Byte × Byte)) : List (Nat × Int) := pairs.map fun p => (u8 p.1, s8 p.2)

/-- The value used for a pair. -/
def usedOf (p : Byte × Byte) : Int := usedValue (u8 p.1) (s8 p.2)

theorem settingPairs_flatMap : ∀ pairs : List (Byte × Byte),
    settingPairs (pairs.flatMap fun p => [p.1, p.2]) = sentPairs pairs
  | [] => rfl
  | p :: pairs => congrArg ((u8 p.1, s8 p.2) :: ·) (settingPairs_flatMap pairs)

theorem settingRanges_ordered (i : Nat) : (settingRanges.getD i (0, 0)).1 ≤ (settingRanges.getD i (0, 0)).2 := by
  by_cases hi : i < 17
  · have hall : ∀ i < 17, (settingRanges.getD i (0, 0)).1 ≤ (settingRanges.getD i (0, 0)).2 := by decide
    exact hall i hi
  · rw [List.getD_eq_default _ _ (not_lt.mp hi)]

theorem clamp_eq_ite {lo hi : Int} (h : lo ≤ hi) (v : Int) :
    clamp lo hi v = if v < lo then lo else if hi < v then hi else v := by
  unfold clamp
  split
  · omega
  · split <;> omega

theorem usedOf_eq (p : Byte × Byte) :
    usedOf p =
      let range := settingRanges.getD (p.1.toNat - 1) (0, 0)
      if p.2.toInt < range.1 then range.1 else if range.2 < p.2.toInt then range.2 else p.2.toInt :=
  clamp_eq_ite (settingRanges_ordered _) _

theorem knownSetting_iff (n : Nat) : knownSetting n = true ↔ 1 ≤ n ∧ n ≤ 17 := by simp [knownSetting]

theorem allKnown_iff (pairs : List (Byte × Byte)) :
    ((sentPairs pairs).all fun p => knownSetting p.1) = true ↔ ∀ p ∈ pairs, 1 ≤ p.1.toNat ∧ p.1.toNat ≤ 17 := by
  simp [sentPairs, knownSetting_iff, u8]

theorem placePairs_length (pairs : List (Nat × Int)) (waiting : List (Option Int)) :
    (placePairs pairs waiting).length = waiting.length := by
  induction pairs using List.reverseRecOn with
  | nil => rfl
  | append_singleton pairs p ih => rw [placePairs, List.foldl_concat, List.length_set, ← ih, placePairs]

/-- An entry of the pending scene is the last value sent for it, and otherwise what it was (R27). -/
theorem placePairs_getD {pairs : List (Byte × Byte)} (hknown : ∀ p ∈ pairs, 1 ≤ p.1.toNat ∧ p.1.toNat ≤ 17)
    {waiting : List (Option Int)} {i : Nat} (hi : i < waiting.length) :
    (placePairs (sentPairs pairs) waiting).getD i none =
      ((pairs.reverse.find? fun p => p.1.toNat = i + 1).map usedOf).or (waiting.getD i none) := by
  induction pairs using List.reverseRecOn with
  | nil => rfl
  | append_singleton pairs p ih =>
    have hp := hknown p (by simp)
    have ih := ih fun q hq => hknown q (by simp [hq])
    have hset : placePairs (sentPairs (pairs ++ [p])) waiting =
        (placePairs (sentPairs pairs) waiting).set (p.1.toNat - 1) (some (usedOf p)) := by
      rw [sentPairs, List.map_append, placePairs, List.foldl_append]
      rfl
    rw [hset, List.reverse_concat, List.find?_cons]
    by_cases hpi : p.1.toNat = i + 1
    · have hlen : i < (placePairs (sentPairs pairs) waiting).length := by rwa [placePairs_length]
      simp [hpi, hlen]
    · have hne : p.1.toNat - 1 ≠ i := by omega
      simp only [hpi, decide_false, ← ih]
      simp [List.getD_eq_getElem?_getD, hne]

theorem byteOf_toNat (b : Byte) : byteOf (b.toNat : Int) = b := by simp [byteOf]

/-- The pairs that were replaced, with the value used. -/
theorem clampedPairs_sent (pairs : List (Byte × Byte)) :
    clampedPairs (sentPairs pairs) =
      (pairs.filter fun p => usedOf p ≠ p.2.toInt).map fun p => (p.1.toNat, usedOf p) := by
  rw [clampedPairs, sentPairs, List.filter_map, List.map_map]
  rfl

theorem clampedPairs_content (pairs : List (Byte × Byte)) :
    ((clampedPairs (sentPairs pairs)).flatMap fun p => [byteOf p.1, byteOf p.2]) =
      (pairs.filter fun p => usedOf p ≠ p.2.toInt).flatMap fun p => [p.1, byteOf (usedOf p)] := by
  rw [clampedPairs_sent, List.flatMap_map]
  simp only [byteOf_toNat]

/-- The status of an accepted SET: CLAMPED where a pair was replaced. -/
def setStatus (pairs : List (Byte × Byte)) : Status :=
  if (clampedPairs (sentPairs pairs)).isEmpty then .ok else .clamped

theorem setStatus_eq (pairs : List (Byte × Byte)) [Decidable (∀ p ∈ pairs, usedOf p = p.2.toInt)] :
    setStatus pairs = if ∀ p ∈ pairs, usedOf p = p.2.toInt then .ok else .clamped := by
  refine if_congr ?_ rfl rfl
  rw [clampedPairs_sent, List.isEmpty_iff, List.map_eq_nil_iff, List.filter_eq_nil_iff]
  simp

/-! ## SET (R24, R27, R28) -/

theorem handleSet_unknown {hold : Byte} {pairs : List (Byte × Byte)} (h : ¬∀ p ∈ pairs, 1 ≤ p.1.toNat ∧ p.1.toNat ≤ 17)
    (s : State) : handleSet (hold :: pairs.flatMap fun p => [p.1, p.2]) s = Handled.refuse s .badId := by
  simp only [handleSet, settingPairs_flatMap]
  rw [if_pos (by rw [Bool.not_eq_true', Bool.eq_false_iff]; exact mt (allKnown_iff pairs).mp h)]

/-- The planner once an accepted SET has placed its pairs. -/
def setPlanner (hold : Byte) (pairs : List (Byte × Byte)) (m : Planner) : Planner :=
  { m with waiting := placePairs (sentPairs pairs) m.waiting, commitMark := m.commitMark || !lowBit hold }

theorem handleSet_known {hold : Byte} {pairs : List (Byte × Byte)} (h : ∀ p ∈ pairs, 1 ≤ p.1.toNat ∧ p.1.toNat ≤ 17)
    (s : State) :
    handleSet (hold :: pairs.flatMap fun p => [p.1, p.2]) s =
      ⟨s.withPlanner (setPlanner hold pairs s.planner), setStatus pairs,
        (pairs.filter fun p => usedOf p ≠ p.2.toInt).flatMap fun p => [p.1, byteOf (usedOf p)]⟩ := by
  simp only [handleSet, settingPairs_flatMap]
  rw [if_neg (by rw [(allKnown_iff pairs).mpr h]; decide), clampedPairs_content]
  rfl

theorem exec_set {tag hold : Byte} {pairs : List (Byte × Byte)} (hpos : 1 ≤ pairs.length) (hmax : pairs.length ≤ 17)
    (s : State) :
    exec (.set tag (hold :: pairs.flatMap fun p => [p.1, p.2])) s =
      request 0x01 tag true true (handleSet (hold :: pairs.flatMap fun p => [p.1, p.2])) s := by
  have hbytes : (pairs.flatMap fun p => [p.1, p.2]).length = pairs.length * 2 := by simp [List.length_flatMap]
  have hlen : setLengthOk (hold :: pairs.flatMap fun p => [p.1, p.2]).length = true := by
    rw [List.length_cons, hbytes]
    simp only [setLengthOk, Bool.and_eq_true, decide_eq_true_iff]
    omega
  change request 0x01 tag (setLengthOk _) true _ s = _
  rw [hlen]

/-- Settles O16: an unknown id refuses the whole, and otherwise the planner takes the pairs and the reply names those replaced. -/
theorem setFillsPendingScene : Obligations.SetFillsPendingScene := by
  intro tag hold pairs s h hshape hpos hmax ranges used
  have hused : used = usedOf := funext fun p => (usedOf_eq p).symm
  clear_value used
  subst hused
  rw [exec_set hpos hmax]
  by_cases hknown : ∀ p ∈ pairs, 1 ≤ p.1.toNat ∧ p.1.toNat ≤ 17
  · obtain ⟨⟨-, hwaiting, -⟩, -⟩ := hshape
    obtain ⟨ha, hr, hl⟩ := h
    have hhandle := handleSet_known (hold := hold) hknown (frameTaken s)
    obtain ⟨t, hx, ho, hsends⟩ := request_sends ha hr (kind := 0x01) (tag := tag) (ready := true)
      (handle := handleSet (hold :: pairs.flatMap fun p => [p.1, p.2])) (ns := []) (fun _ => hl)
      (by rw [hhandle]; simp [afterFrame]) (by decide)
    rw [hhandle] at ho hsends
    have hplanner : t.planner = setPlanner hold pairs s.planner := ho.planner
    refine ⟨t, hx, ?_⟩
    rw [if_pos hknown, hplanner]
    refine ⟨((frameTaken_only s).comp (withPlanner_only _ _) (n := [.planner, .link])).comp ho, rfl,
      (placePairs_length _ _).trans hwaiting, fun i hi => ?_, ?_⟩
    · refine (placePairs_getD hknown (hi.trans_eq hwaiting.symm)).trans ?_
      cases pairs.reverse.find? _ <;> rfl
    · rw [← @setStatus_eq pairs _]
      exact hsends
  · obtain ⟨t, hx, href⟩ := request_refused h (kind := 0x01) (tag := tag) (ready := true) (handleSet_unknown hknown _)
    refine ⟨t, hx, ?_⟩
    rw [if_neg hknown]
    exact href

/-! ## COMMIT (R29, R30) -/

theorem pendingCount_eq_zero_iff (m : Planner) : pendingCount m = 0 ↔ m.waiting.any Option.isSome = false := by
  simp [pendingCount, List.length_eq_zero_iff, List.filter_eq_nil_iff]

/-- COMMIT answers OK with the mark set where an entry waits. -/
theorem handleCommit_planner (s : State) :
    ∃ u, handleCommit s = Handled.done u ∧ Only [.planner] s u ∧
      u.planner = { s.planner with commitMark := s.planner.commitMark || s.planner.waiting.any Option.isSome } := by
  refine ⟨_, rfl, handleCommit_only s, ?_⟩
  split
  next h => rw [(pendingCount_eq_zero_iff _).mp h, Bool.or_false]
  next h => rw [Bool.eq_true_of_not_eq_false (mt (pendingCount_eq_zero_iff _).mpr h), Bool.or_true]; rfl

theorem commitScene_length (live : Scene) (waiting : List (Option Int)) :
    (commitScene live waiting).length = live.length := by simp [commitScene]

theorem commitScene_getD {live : Scene} {i : Nat} (h : i < live.length) (waiting : List (Option Int)) :
    (commitScene live waiting).getD i 0 = (waiting.getD i none).getD (live.getD i 0) :=
  getD_zipIdx_map h _ _ _

theorem takeCommit_planner (s : State) :
    (takeCommit s).planner = { s.planner with
      live := commitScene s.planner.live s.planner.waiting
      waiting := s.planner.waiting.map fun _ => none, commitMark := false } := by
  unfold takeCommit
  dsimp only
  split <;> rfl

theorem takeCommit_tracker (s : State) :
    (takeCommit s).tracker =
      if (takeCommit s).planner.live.val .sdvLevel = s.planner.live.val .sdvLevel then s.tracker
      else derived s.tables (takeCommit s).planner.live s.tracker := by
  rw [takeCommit_planner]
  unfold takeCommit
  dsimp only
  split <;> rfl

/-- Settles O17: the request by whether an entry waits, the commit by its mark. -/
theorem commitTakesPendingScene : Obligations.CommitTakesPendingScene := by
  refine ⟨fun tag s h => ?_, fun s ha hshape => ?_⟩
  · obtain ⟨u, hu, honly, hplanner⟩ := handleCommit_planner (frameTaken s)
    obtain ⟨t, hx, ho, hreply⟩ := request_done h (kind := 0x02) (tag := tag) (ready := true) (ns := []) hu
      (by rw [honly.link]; simp [afterFrame]) (by decide)
    exact ⟨t, hx, ((frameTaken_only s).comp honly (n := [.planner, .link])).comp ho, ho.planner.trans hplanner, hreply⟩
  · obtain ⟨⟨hlive, hwaiting, -⟩, -⟩ := hshape
    refine ⟨_, event_quiet ha (commitIfMarked_only s).link, ?_⟩
    split
    next hmark =>
      rw [commitIfMarked, if_pos hmark]
      refine ⟨takeCommit_only s, ?_, ?_, fun i hi => ?_, takeCommit_tracker s⟩
      · rw [takeCommit_planner, List.map_const', hwaiting]
      · rw [takeCommit_planner, commitScene_length, hlive]
      · rw [takeCommit_planner, commitScene_getD (hi.trans_eq hlive.symm)]
    next hmark => exact if_neg hmark

/-! ## QUERY (R183) -/

/-- What a QUERY answers does not depend on the link. -/
theorem queryItem_frameTaken (s : State) (item index : Nat) :
    queryItem (frameTaken s) item index = queryItem s item index := rfl

theorem handleQuery_ok {item hi lo : Byte} {s : State} {content : List Byte}
    (h : queryItem s item.toNat (u16 hi lo) = .ok content) : handleQuery [item, hi, lo] s = ⟨s, .ok, content⟩ := by
  simp only [handleQuery, h]

theorem handleQuery_error {item hi lo : Byte} {s : State} {x : Status}
    (h : queryItem s item.toNat (u16 hi lo) = .error x) : handleQuery [item, hi, lo] s = Handled.refuse s x := by
  simp only [handleQuery, h]

/-- A QUERY changes nothing, and its reply is what its item holds, or the status that refuses it. -/
theorem query_replies {s : State} (ha : Awake s) (hr : s.link.replies.length < 4) (tag item hi lo : Byte) {x : Status}
    {content : List Byte} (h : handleQuery [item, hi, lo] (frameTaken s) = ⟨frameTaken s, x, content⟩) :
    ∃ t, exec (.query tag [item, hi, lo]) s = .next t ∧ Only [.link, .draws] s t ∧ Replies s t 0x03 tag x content [] := by
  obtain ⟨t, hx, ho, hsends⟩ := request_sends ha hr (kind := 0x03) (tag := tag) (ready := false)
    (handle := handleQuery [item, hi, lo]) (ns := []) nofun (by rw [h]; simp [afterFrame]) (by decide)
  rw [h] at ho hsends
  exact ⟨t, hx, (frameTaken_only s).comp ho, hsends⟩

/-- Settles O51: the items one by one. -/
theorem queryAnswersItems : Obligations.QueryAnswersItems := by
  intro tag item hi lo s ha hr i o f a g steps record outstanding answer
  have houtstanding : outstanding = byteOf (outstandingCode s.store) := by
    simp only [outstanding, outstandingCode]
    cases s.store.waiting with
    | some op => rfl
    | none => obtain _ | _ | _ | op := s.store.running <;> rfl
  have hanswer : answer = queryItem (frameTaken s) item.toNat (u16 hi lo) := by
    rw [queryItem_frameTaken]
    simp only [answer, houtstanding]
    match item.toNat with
    | 0 | 1 | 2 | 3 | 4 | 5 | 6 | 7 | 8 | 9 | _ + 10 => rfl
  cases hitem : answer with
  | ok content =>
    obtain ⟨t, hx, hreply⟩ := query_replies ha hr tag item hi lo (handleQuery_ok (hanswer.symm.trans hitem))
    exact ⟨t, hx, hreply⟩
  | error x =>
    obtain ⟨t, hx, hreply⟩ := query_replies ha hr tag item hi lo (handleQuery_error (hanswer.symm.trans hitem))
    exact ⟨t, hx, hreply⟩

end Sys2Proof
end

section
/-! SUPPORT. Targets and applied gains stay in their ranges. -/

set_option Elab.async false

namespace Sys2Proof

open Sys2Proof.Machine

/-! ## What keeps every target and every applied gain -/

/-- The targets, the ceilings they were computed under and the applied gains stand. -/
def KeepsGains (s t : State) : Prop :=
  (t.planner.readCeiling = s.planner.readCeiling ∧ t.planner.targets = s.planner.targets) ∧ t.ramp.applied = s.ramp.applied

theorem KeepsGains.refl (s : State) : KeepsGains s s := ⟨⟨rfl, rfl⟩, rfl⟩

theorem KeepsGains.trans {s t u : State} (h : KeepsGains s t) (h' : KeepsGains t u) : KeepsGains s u := by
  obtain ⟨⟨hceiling, htargets⟩, happlied⟩ := h
  obtain ⟨⟨hceiling', htargets'⟩, happlied'⟩ := h'
  exact ⟨⟨hceiling'.trans hceiling, htargets'.trans htargets⟩, happlied'.trans happlied⟩

theorem KeepsGains.of_only {l : List Block} {s t : State} (h : Only l s t) (hp : Block.planner ∉ l := by decide)
    (hr : Block.ramp ∉ l := by decide) : KeepsGains s t := by
  rw [KeepsGains, h.planner hp, h.ramp hr]
  exact ⟨⟨rfl, rfl⟩, rfl⟩

theorem KeepsGains.ite {s t u : State} {p : Prop} [Decidable p] (h : p → KeepsGains s t) (h' : ¬p → KeepsGains s u) :
    KeepsGains s (if p then t else u) := by
  split
  · exact h ‹_›
  · exact h' ‹_›

theorem handleSet_keepsGains (p : List Byte) (s : State) : KeepsGains s (handleSet p s).state := by
  unfold handleSet
  split
  · exact .refl s
  · dsimp only
    split <;> exact .refl s

theorem handleCommit_keepsGains (s : State) : KeepsGains s (handleCommit s).state :=
  .ite (fun _ => .refl s) fun _ => ⟨⟨rfl, rfl⟩, rfl⟩

theorem commitIfMarked_keepsGains (s : State) : KeepsGains s (commitIfMarked s) := by
  refine .ite (fun _ => ?_) fun _ => .refl s
  rw [KeepsGains, takeCommit_planner, (takeCommit_only s).ramp]
  exact ⟨⟨rfl, rfl⟩, rfl⟩

/-- An accepted write of numbers may reset the divider counter, and moves no gain (R52). -/
theorem acceptNums_keepsGains (id : TableId) (first k : Nat) (l : List Int) (s : State) :
    KeepsGains s (acceptNums id first k l s) := by
  cases id
  case globals =>
    obtain ⟨honly, -, hramp, -, -⟩ := acceptNums_globals_acts first k l s
    rw [KeepsGains, honly.planner, hramp]
    exact ⟨⟨rfl, rfl⟩, by split <;> rfl⟩
  all_goals exact ⟨⟨rfl, rfl⟩, rfl⟩

theorem accepted_keepsGains {ok : Bool} {x : Status} {s t : State} (h : KeepsGains s t) :
    KeepsGains s (accepted ok x s t).state := by
  unfold accepted
  split
  · exact h
  · exact .refl s

theorem writeEntries_keepsGains (id : TableId) (first : Nat) (entries : List (List Byte)) (s : State) :
    KeepsGains s (writeEntries id first entries s).state := by
  cases id <;> dsimp only [writeEntries]
  case speedCurve =>
    split
    · exact .refl s
    · exact accepted_keepsGains (.of_only (acceptCurve_only _ s))
  case classes =>
    split
    · exact .refl s
    · exact .of_only (acceptClasses_only _ s)
  case route =>
    split
    · exact .refl s
    · exact .of_only (acceptRoute_only _ s)
  case fixedSets | bassSets | trebleSets => exact accepted_keepsGains (.of_only (writeSets_only _ _ _ s))
  all_goals exact accepted_keepsGains (acceptNums_keepsGains _ _ _ _ s)

theorem handleTableWrite_keepsGains (p : List Byte) (s : State) : KeepsGains s (handleTableWrite p s).state := by
  unfold handleTableWrite
  split
  · split
    · exact .refl s
    · split
      · exact .refl s
      · split
        · exact .refl s
        · exact writeEntries_keepsGains _ _ _ s
  · exact .refl s

theorem handlePatchPut_keepsGains (p : List Byte) (s : State) : KeepsGains s (handlePatchPut p s).state := by
  unfold handlePatchPut
  split
  · split
    · exact .refl s
    · dsimp only
      split
      · exact .refl s
      · split
        · exact .refl s
        · split
          · exact .refl s
          · exact (acceptNums_keepsGains _ _ _ _ s).trans (.of_only (withPatches_only _ _))
  · exact .refl s

theorem arbitrate_keepsGains (s : State) : KeepsGains s (arbitrate s) := .of_only (arbitrate_only s)

theorem takeDrain_keepsGains (k : Slot) (s : State) : KeepsGains s (takeDrain k s) := by
  refine .ite (fun _ => .ite (fun _ => ?_) fun _ => ⟨⟨rfl, rfl⟩, rfl⟩) fun _ => .refl s
  refine KeepsGains.trans ?_ (arbitrate_keepsGains _)
  refine KeepsGains.trans ?_ (.of_only (post_only _ _))
  exact ⟨⟨rfl, rfl⟩, rfl⟩

theorem finishLoad_keepsGains (s : State) : KeepsGains s (finishLoad s) := by
  rw [KeepsGains, finishLoad_planner, (finishLoad_only s).ramp]
  exact ⟨⟨rfl, rfl⟩, rfl⟩

theorem loadPlaced_keepsGains (s : State) : KeepsGains s (loadPlaced s) := by
  rw [KeepsGains, loadPlaced_planner, loadPlaced_ramp]
  exact ⟨⟨rfl, rfl⟩, rfl⟩

theorem completeLoad_keepsGains (s : State) : KeepsGains s (completeLoad s) := by
  by_cases hload : s.store.running = some .load
  · by_cases hv : s.store.factoryState = .valid
    · rw [completeLoad_valid hload hv]
      exact ((loadPlaced_keepsGains s).trans (.of_only (loadPatched_only s))).trans (finishLoad_keepsGains _)
    · rw [completeLoad_invalid hload hv]
      exact (KeepsGains.of_only (loadUnplaced_only s)).trans (finishLoad_keepsGains _)
  · rw [completeLoad, if_neg hload]
    exact .refl s

/-! ## Targets under their ceilings (R41, R43) -/

/-- An entry of a table lies in the table's range, and so does the 0 read outside it. -/
theorem Within.getD {lo hi : Int} {l : List Int} (h : Within lo hi l) (hlo : lo ≤ 0) (hhi : 0 ≤ hi) (i : Nat) :
    lo ≤ l.getD i 0 ∧ l.getD i 0 ≤ hi := by
  by_cases hlt : i < l.length
  · rw [List.getD_eq_getElem _ _ hlt]
    exact h _ (List.getElem_mem hlt)
  · rw [List.getD_eq_default _ _ (not_lt.mp hlt)]
    exact ⟨hlo, hhi⟩

theorem TablesOk.numbersMeet {s : State} (ht : TablesOk s) {id : TableId} (hid : id ∈ numberTables) :
    NumbersMeet id (s.tables.nums id) := by
  obtain ⟨⟨-, hnumbers, -⟩, -⟩ := ht
  exact hnumbers id hid

theorem limitTarget_within {ceiling : Int} (h : -480 ≤ ceiling) (v : Int) :
    -480 ≤ limitTarget ceiling v ∧ limitTarget ceiling v ≤ ceiling := by
  rw [limitTarget_eq]
  omega

theorem progTarget_within {s : State} {c : Nat} (h : -480 ≤ s.tables.ceiling.getD c 0) :
    -480 ≤ progTarget s c ∧ progTarget s c ≤ s.tables.ceiling.getD c 0 := by
  unfold progTarget
  dsimp only
  split
  · exact ⟨le_rfl, h⟩
  · exact limitTarget_within h _

theorem slotTarget_within {s : State} {c : Nat} (h : -480 ≤ s.tables.ceiling.getD c 0) (k : Slot) :
    -480 ≤ slotTarget s k c ∧ slotTarget s k c ≤ s.tables.ceiling.getD c 0 := by
  by_cases hactive : ∃ x, s.arbiter.slots.get k = .active x
  · obtain ⟨x, hx⟩ := hactive
    rw [slotTarget_active hx]
    split
    · exact limitTarget_within h _
    · exact ⟨le_rfl, h⟩
  · rw [slotTarget_silent (not_exists.mp hactive)]
    exact ⟨le_rfl, h⟩

/-! ## The invariant (R41, R43, R50, R56) -/

theorem GainsOk.keep {s t : State} (hs : GainsOk s) (h : KeepsGains s t) : GainsOk t := by
  obtain ⟨⟨hceiling, htargets⟩, happlied⟩ := h
  rw [GainsOk, hceiling, htargets, happlied]
  exact hs

theorem GainsOk.of_frame {l : List Block} {s t : State} (hs : GainsOk s) (h : Only l s t)
    (hp : Block.planner ∉ l := by decide) (hr : Block.ramp ∉ l := by decide) : GainsOk t :=
  hs.keep (.of_only h hp hr)

/-- An event that leaves the planner keeps the invariant if it leaves the applied gains in their range. -/
theorem GainsOk.of_applied {s t : State} (hs : GainsOk s) (hp : t.planner = s.planner)
    (h : ∀ c, c < 24 → PathGains.within (-480) 48 (t.ramp.applied.getD c PathGains.mute)) : GainsOk t := by
  intro c hc
  obtain ⟨hceiling, htargets, -⟩ := hs c hc
  rw [hp]
  exact ⟨hceiling, htargets, h c hc⟩

/-- The planner reads valid ceilings and limits every target by them. -/
theorem computePlan_gainsOk {s : State} (ht : TablesOk s) (hs : GainsOk s) : GainsOk (computePlan s) := by
  intro c hc
  obtain ⟨-, -, happlied⟩ := hs c hc
  have hceiling : -96 ≤ s.tables.ceiling.getD c 0 ∧ s.tables.ceiling.getD c 0 ≤ 48 :=
    Within.getD (ht.numbersMeet (id := .ceiling) (by decide)) (by decide) (by decide) c
  have hfloor : -480 ≤ s.tables.ceiling.getD c 0 := by omega
  have hread : (computePlan s).planner.readCeiling.getD c 0 = s.tables.ceiling.getD c 0 :=
    getD_range_map hc (fun c => s.tables.ceiling.getD c 0) _
  have htargets : (computePlan s).planner.targets.getD c PathGains.mute = targetsOf s c := getD_range_map hc _ _
  rw [hread, htargets]
  exact ⟨hceiling, ⟨progTarget_within hfloor, slotTarget_within hfloor _, slotTarget_within hfloor _⟩, happlied⟩

/-! ## The ramp unit (R53 to R56) -/

theorem clampApplied_gainsOk {s : State} (hs : GainsOk s) : GainsOk (clampApplied s) := by
  refine hs.of_applied rfl fun c hc => ?_
  obtain ⟨hceiling, -, hprog, hslot1, hslot2⟩ := hs c hc
  have happlied : (clampApplied s).ramp.applied.getD c PathGains.mute =
      clampPaths (s.planner.readCeiling.getD c 0) (s.ramp.applied.getD c PathGains.mute) :=
    getD_range_map hc (fun c => clampPaths (s.planner.readCeiling.getD c 0) (s.ramp.applied.getD c PathGains.mute)) _
  rw [happlied]
  simp only [PathGains.within, clampPaths]
  omega

/-- A ramp step from a gain in range toward a target in range ends in range. -/
theorem rampPath_within {a t slew : Int} (ha : -480 ≤ a ∧ a ≤ 48) (ht : -480 ≤ t ∧ t ≤ 48) (hslew : 0 ≤ slew) :
    -480 ≤ rampPath a t slew ∧ rampPath a t slew ≤ 48 := by
  unfold rampPath
  split_ifs <;> omega

theorem slews_nonneg {s : State} (ht : TablesOk s) : 0 ≤ s.tables.global .progSlew ∧ 0 ≤ s.tables.global .annSlew := by
  have hmeet : GlobalsMeet s.tables.globals := ht.numbersMeet (id := .globals) (by decide)
  obtain ⟨⟨-, -, hprog, hann, -⟩, -⟩ := hmeet
  exact ⟨le_trans (by decide) hprog.1, le_trans (by decide) hann.1⟩

theorem moveAll_gainsOk {s : State} (ht : TablesOk s) (hs : GainsOk s) : GainsOk (moveAll s) := by
  refine hs.of_applied rfl fun c hc => ?_
  obtain ⟨hceiling, ⟨hprog, hslot1, hslot2⟩, haprog, haslot1, haslot2⟩ := hs c hc
  obtain ⟨hprogSlew, hannSlew⟩ := slews_nonneg ht
  have hmoved : (moveAll s).ramp.applied.getD c PathGains.mute =
      rampPaths (s.tables.global .progSlew) (s.tables.global .annSlew) (s.ramp.applied.getD c PathGains.mute)
        (s.planner.targets.getD c PathGains.mute) :=
    getD_range_map hc (fun c => rampPaths (s.tables.global .progSlew) (s.tables.global .annSlew)
      (s.ramp.applied.getD c PathGains.mute) (s.planner.targets.getD c PathGains.mute)) _
  rw [hmoved]
  exact ⟨rampPath_within haprog ⟨hprog.1, hprog.2.trans hceiling.2⟩ hprogSlew,
    rampPath_within haslot1 ⟨hslot1.1, hslot1.2.trans hceiling.2⟩ hannSlew,
    rampPath_within haslot2 ⟨hslot2.1, hslot2.2.trans hceiling.2⟩ hannSlew⟩

theorem checkDrain_keepsGains (k : Slot) (s : State) : KeepsGains s (checkDrain k s) :=
  .ite (fun _ => ⟨⟨rfl, rfl⟩, rfl⟩) fun _ => .refl s

theorem rampUnitBoundary_gainsOk {s : State} (ht : TablesOk s) (hs : GainsOk s) : GainsOk (rampUnitBoundary s) := by
  have hclamped := clampApplied_gainsOk hs
  have hadvanced : GainsOk (advanceDivider (clampApplied s)) := by
    unfold advanceDivider
    split
    · exact moveAll_gainsOk (ht.of_frame ((clampApplied_only s).trans (withRamp_only _ _))) hclamped
    · exact hclamped
  exact (hadvanced.keep (checkDrain_keepsGains _ _)).keep (checkDrain_keepsGains _ _)

/-! ## Every event -/

theorem effect_gainsOk (c : Instr) {s : State} (ht : TablesOk s) (hs : GainsOk s) : GainsOk (effect c s) := by
  have request : ∀ {kind tag lengthOk ready} {handle : State → Handled},
      (∀ s, KeepsGains s (handle s).state) → GainsOk (taken kind tag lengthOk ready handle s) :=
    fun hh => taken_keeps (fun s _ h => h.of_frame (withLink_only s _)) (fun s h => h.keep (hh s)) hs _ _ _ _
  have hf := effect_only c s
  cases c
  all_goals dsimp only [touches] at hf
  case set p => exact request (handleSet_keepsGains p)
  case commit => exact request handleCommit_keepsGains
  case tableWrite p => exact request (handleTableWrite_keepsGains p)
  case patchPut p => exact request (handlePatchPut_keepsGains p)
  case commitTaken => exact hs.keep (commitIfMarked_keepsGains s)
  case plannerBoundary =>
    exact computePlan_gainsOk (ht.of_frame (commitIfMarked_only s)) (hs.keep (commitIfMarked_keepsGains s))
  case rampBoundary => exact rampUnitBoundary_gainsOk ht hs
  case rampStep =>
    dsimp only [effect]
    split
    · exact rampUnitBoundary_gainsOk ht hs
    · exact hs
  case drainCompletion k => exact hs.keep (takeDrain_keepsGains k s)
  case loadComplete => exact hs.keep (completeLoad_keepsGains s)
  all_goals exact hs.of_frame hf

theorem reset_gainsOk : GainsOk State.reset := by
  unfold GainsOk PathGains.within
  decide +kernel

/-- Settles O14, together with O6's invariant: the ceilings that the planner reads and the slews of the ramp unit are valid. -/
theorem gainsStayInRange : Obligations.GainsStayInRange := by
  intro s t ht hs h
  refine (step_keeps (P := fun s => TablesOk s ∧ GainsOk s) ?_ ?_ ?_ (fun c s t hs h => ?_) ⟨ht, hs⟩ h).2
  · exact fun s _ h => ⟨h.1.of_frame (withPending_only s _), h.2.of_frame (withPending_only s _)⟩
  · exact fun s _ h => h
  · exact fun s _ h => ⟨h.1.of_frame (withLink_only s _), h.2.of_frame (withLink_only s _)⟩
  · refine exec_keeps (P := fun s => TablesOk s ∧ GainsOk s) (fun c s _ h => ?_) (fun s h => ?_) (fun e s h => ?_)
      (fun s h => ?_) (fun e s h => ?_) (fun e s h => ?_) (fun i f s h => ?_) hs h
    · exact ⟨(effect_tablesOk c h.1).of_frame (pump_only _), (effect_gainsOk c h.1 h.2).of_frame (pump_only _)⟩
    · exact ⟨frameSent_tablesOk h.1, h.2.of_frame (frameSent_only s)⟩
    · exact ⟨enterReset_tablesOk e h.1, h.2.of_frame (enterReset_only e s)⟩
    · exact ⟨losePower_tablesOk h.1, h.2.of_frame (losePower_only s)⟩
    · exact ⟨h.1.of_frame (withHold_only s _), h.2.of_frame (withHold_only s _)⟩
    · exact ⟨release_tablesOk e h.1, reset_gainsOk.keep ⟨⟨rfl, rfl⟩, rfl⟩⟩
    · exact ⟨damageStored_tablesOk i f h.1, h.2.of_frame (withStore_only s _)⟩

end Sys2Proof
end

section
/-! SUPPORT. The sizes of the part's records, block by block, and what keeps them. -/

set_option Elab.async false

namespace Sys2Proof

open Sys2Proof.Machine

/-! ## The shape of each block -/

/-- The planner's lists: 17 settings, 24 channels. -/
structure PlannerShape (m : Planner) : Prop where
  live : m.live.length = 17
  waiting : m.waiting.length = 17
  targets : m.targets.length = 24
  tone : m.tone.length = 24
  readCeiling : m.readCeiling.length = 24

/-- The store's contents, and those that an operation on its way carries. -/
structure StoreShape (st : Store) : Prop where
  start : st.start.length = 17
  sets : st.factory.sets.length = 344
  waiting : ∀ op, st.waiting = some op → HostOpShapeOk op
  running : ∀ op, st.running = some (.host op) → HostOpShapeOk op

/-- What ShapeOk says of one block. -/
def BlockShape (s : State) : Block → Prop
  | .planner => PlannerShape s.planner
  | .mixer => s.mixer.length = 24
  | .ramp => s.ramp.applied.length = 24
  | .output => s.output.length = 24
  | .lines => s.lines.length = 24
  | .eq => s.eq.length = 24 ∧ ∀ ch ∈ s.eq, ch.length = 8
  | .integrity => s.integrity.sets.length = 344
  | .store => StoreShape s.store
  | .tables | .tracker | .arbiter | .supply | .read | .patches | .startup | .record | .hold | .link | .audio | .draws
  | .pending | .received => True

theorem shapeOk_iff (s : State) : ShapeOk s ↔ ∀ b, BlockShape s b := by
  constructor
  · rintro ⟨⟨hlive, hwaiting, htargets, htone, hread⟩, ⟨hmixer, hramp, hout, hlines⟩, heq, hsets, ⟨hstart, hfactory⟩, hwaits, hruns⟩ b
    cases b
    case planner => exact ⟨hlive, hwaiting, htargets, htone, hread⟩
    case store => exact ⟨hstart, hfactory, hwaits, hruns⟩
    case mixer | ramp | output | lines | eq | integrity => assumption
    all_goals trivial
  · intro h
    obtain ⟨hlive, hwaiting, htargets, htone, hread⟩ := h .planner
    obtain ⟨hstart, hfactory, hwaits, hruns⟩ := h .store
    exact ⟨⟨hlive, hwaiting, htargets, htone, hread⟩, ⟨h .mixer, h .ramp, h .output, h .lines⟩, h .eq, h .integrity,
      ⟨hstart, hfactory⟩, hwaits, hruns⟩

theorem ShapeOk.block {s : State} (h : ShapeOk s) (b : Block) : BlockShape s b := (shapeOk_iff s).mp h b

theorem BlockShape.of_same {s t : State} {b : Block} (h : BlockShape s b) (hb : b.same s t) : BlockShape t b := by
  cases b
  case planner | mixer | ramp | output | lines | eq | integrity | store =>
    simp only [Block.same] at hb
    simpa only [BlockShape, hb] using h
  all_goals trivial

/-- An event keeps the shape if it leaves every block that it touches in shape. -/
theorem ShapeOk.of_blocks {l : List Block} {s t : State} (hs : ShapeOk s) (h : Only l s t)
    (hl : l.Forall (BlockShape t)) : ShapeOk t := by
  rw [shapeOk_iff]
  intro b
  by_cases hb : b ∈ l
  · exact List.forall_iff_forall_mem.mp hl b hb
  · exact (hs.block b).of_same (h b hb)

/-! ## What keeps the numbers of channels, lines and sets -/

/-- The output stage, the delay memory and the integrity checker have as many records as before. -/
def KeepsCounts (s t : State) : Prop :=
  t.output.length = s.output.length ∧ t.lines.length = s.lines.length ∧ t.integrity.sets.length = s.integrity.sets.length

theorem KeepsCounts.refl (s : State) : KeepsCounts s s := ⟨rfl, rfl, rfl⟩

theorem KeepsCounts.trans {s t u : State} (h : KeepsCounts s t) (h' : KeepsCounts t u) : KeepsCounts s u := by
  obtain ⟨hout, hlines, hsets⟩ := h
  obtain ⟨hout', hlines', hsets'⟩ := h'
  exact ⟨hout'.trans hout, hlines'.trans hlines, hsets'.trans hsets⟩

theorem KeepsCounts.of_only {l : List Block} {s t : State} (h : Only l s t) (ho : Block.output ∉ l := by decide)
    (hl : Block.lines ∉ l := by decide) (hi : Block.integrity ∉ l := by decide) : KeepsCounts s t :=
  ⟨by rw [h.output ho], by rw [h.lines hl], by rw [h.integrity hi]⟩

theorem KeepsCounts.ite {s t u : State} {p : Prop} [Decidable p] (h : p → KeepsCounts s t) (h' : ¬p → KeepsCounts s u) :
    KeepsCounts s (if p then t else u) := by
  split
  · exact h ‹_›
  · exact h' ‹_›

/-- Lines and pending delays stand only where there are as many of them. -/
theorem KeepsCounts.of_delays {l : List Block} {s t : State} (h : KeepsDelays s t) (ho : Only l s t)
    (hi : Block.integrity ∉ l := by decide) : KeepsCounts s t :=
  ⟨by simpa using congrArg List.length h.2, by rw [h.1], by rw [ho.integrity hi]⟩

theorem KeepsCounts.outputShape {s t : State} (h : KeepsCounts s t) (hs : ShapeOk s) : BlockShape t .output :=
  h.1.trans (hs.block .output)

theorem KeepsCounts.linesShape {s t : State} (h : KeepsCounts s t) (hs : ShapeOk s) : BlockShape t .lines :=
  h.2.1.trans (hs.block .lines)

theorem KeepsCounts.setsShape {s t : State} (h : KeepsCounts s t) (hs : ShapeOk s) : BlockShape t .integrity :=
  h.2.2.trans (hs.block .integrity)

theorem mapOut_keepsCounts (f : OutChan → OutChan) (s : State) : KeepsCounts s (s.mapOut f) := ⟨List.length_map _, rfl, rfl⟩

theorem modifySet_keepsCounts (i : Nat) (f : CoeffSet → CoeffSet) (s : State) : KeepsCounts s (s.modifySet i f) :=
  ⟨rfl, rfl, List.length_modify _ _ _⟩

theorem mapSets_keepsCounts (f : CoeffSet → CoeffSet) (s : State) :
    KeepsCounts s (s.withIntegrity { s.integrity with sets := s.integrity.sets.map f }) :=
  ⟨rfl, rfl, List.length_map _⟩

theorem recordTransition_keepsCounts (i : Nat) (x : SetState) (r : Bool) (s : State) :
    KeepsCounts s (recordTransition i x r s) := by
  refine KeepsCounts.trans ?_ (.of_only (post_only _ _))
  exact ⟨rfl, rfl, rfl⟩

theorem clearFault_keepsCounts (i : Nat) (s : State) : KeepsCounts s (clearFault i s) :=
  .ite (fun _ => ⟨List.length_modify _ _ _, rfl, rfl⟩) fun _ => .refl s

theorem examine_keepsCounts (i : Nat) (s : State) : KeepsCounts s (examine i s) := by
  refine .ite (fun _ => ?_) fun _ => .refl s
  refine KeepsCounts.trans ?_ (recordTransition_keepsCounts _ _ _ _)
  exact .ite (fun _ => ⟨List.length_modify _ _ _, rfl, List.length_modify _ _ _⟩) fun _ =>
    ⟨rfl, rfl, List.length_modify _ _ _⟩

theorem scan_keepsCounts (s : State) : KeepsCounts s (scan s) := (examine_keepsCounts _ s).trans ⟨rfl, rfl, rfl⟩

theorem eqBoundary_keepsCounts (s : State) : KeepsCounts s (eqBoundary s) := by
  have hchecks : ∀ (l : List Nat) (s : State), KeepsCounts s (l.foldl (fun s i => examine i s) s) := by
    intro l
    induction l with
    | nil => exact .refl
    | cons i l ih => exact fun s => (examine_keepsCounts i s).trans (ih _)
  refine KeepsCounts.trans ?_ (hchecks _ _)
  exact ⟨rfl, rfl, rfl⟩

theorem beginRead_keepsCounts (s : State) : KeepsCounts s (beginRead s) := by
  unfold beginRead
  split
  · exact .refl s
  · refine KeepsCounts.trans ?_ (recordTransition_keepsCounts _ _ _ _)
    exact ⟨rfl, rfl, List.length_modify _ _ _⟩

theorem grantNext_keepsCounts (s : State) : KeepsCounts s (grantNext s) :=
  .ite (fun _ => beginRead_keepsCounts s) fun _ => .of_only (beginHost_only s)

theorem restoreFails_keepsCounts (i : Nat) (s : State) : KeepsCounts s (restoreFails i s) := by
  refine KeepsCounts.trans ?_ (recordTransition_keepsCounts _ _ _ _)
  exact modifySet_keepsCounts i _ s

theorem readOutcome_keepsCounts (r : ReadRec) (ok : Bool) (s : State) : KeepsCounts s (readOutcome r ok s) := by
  refine .ite (fun _ => .refl s) fun _ => ?_
  split
  · exact restoreFails_keepsCounts _ s
  · refine .ite (fun _ => ?_) fun _ => (modifySet_keepsCounts _ _ s).trans (restoreFails_keepsCounts _ _)
    refine KeepsCounts.trans (KeepsCounts.trans ?_ (clearFault_keepsCounts _ _)) (recordTransition_keepsCounts _ _ _ _)
    exact modifySet_keepsCounts _ _ s

theorem completeRead_keepsCounts (ok : Bool) (s : State) : KeepsCounts s (completeRead ok s) := by
  unfold completeRead
  split
  · exact .refl s
  · refine KeepsCounts.trans ?_ (grantNext_keepsCounts _)
    exact readOutcome_keepsCounts _ _ _

theorem leaveForGood_keepsCounts (was : SetState) (i : Nat) (s : State) : KeepsCounts s (leaveForGood was i s) := by
  have hleft : ∀ u, KeepsCounts s u → KeepsCounts s (recordTransition i .good false (clearFault i u)) := fun u h =>
    (h.trans (clearFault_keepsCounts _ _)).trans (recordTransition_keepsCounts _ _ _ _)
  cases was
  case good => exact .refl s
  case suspect => exact hleft _ ⟨rfl, rfl, rfl⟩
  case restoring => exact hleft _ (.of_only (discardRead_only i s))
  case failed => exact hleft _ (.refl s)

theorem writeSets_keepsCounts (byHost : Bool) : ∀ (i : Nat) (l : List Words) (s : State),
    KeepsCounts s (writeSets byHost i l s)
  | _, [], s => .refl s
  | i, _ :: rest, s =>
    ((modifySet_keepsCounts i _ s).trans (leaveForGood_keepsCounts _ _ _)).trans (writeSets_keepsCounts byHost (i + 1) rest _)

theorem takeReading_keepsCounts (u : Nat) (s : State) : KeepsCounts s (takeReading u s) :=
  .of_delays (takeReading_keepsDelays u s) (takeReading_only u s)

theorem rampUnitBoundary_keepsCounts (s : State) : KeepsCounts s (rampUnitBoundary s) :=
  .of_delays (rampUnitBoundary_keepsDelays s) (rampUnitBoundary_only s)

theorem handleCounters_keepsCounts (p : List Byte) (s : State) : KeepsCounts s (handleCounters p s).state := by
  unfold handleCounters
  split
  · exact .ite (fun _ => mapOut_keepsCounts _ _) fun _ => .refl s
  · exact .refl s

theorem applyDelays_keepsCounts (s : State) : KeepsCounts s (applyDelays s) :=
  ⟨List.length_map _, by simp [applyDelays, State.mapOut], rfl⟩

theorem outputBoundary_keepsCounts (s : State) : KeepsCounts s (outputBoundary s) := by
  have hstepped : KeepsCounts s (stepped s) := .of_delays (stepped_keepsDelays s) (stepped_only s)
  exact (hstepped.trans (applyDelays_keepsCounts _)).trans (mapOut_keepsCounts _ _)

/-! Writes of tables, and LOAD. -/

theorem zipOut_keepsCounts (f : OutChan × Nat → OutChan) (s : State) :
    KeepsCounts s (s.withOutput (s.output.zipIdx.map f)) := ⟨by simp, rfl, rfl⟩

theorem acceptNums_keepsCounts (id : TableId) (first k : Nat) (l : List Int) (s : State) :
    KeepsCounts s (acceptNums id first k l s) := by
  cases id
  case globals =>
    obtain ⟨honly, -⟩ := acceptNums_globals_acts first k l s
    exact .of_only honly
  case delay => exact zipOut_keepsCounts _ _
  all_goals exact ⟨rfl, rfl, rfl⟩

theorem acceptRoute_keepsCounts (l : List Route) (s : State) : KeepsCounts s (acceptRoute l s) :=
  zipOut_keepsCounts _ _

theorem accepted_keepsCounts {ok : Bool} {x : Status} {s t : State} (h : KeepsCounts s t) :
    KeepsCounts s (accepted ok x s t).state := by
  unfold accepted
  split
  · exact h
  · exact .refl s

theorem writeEntries_keepsCounts (id : TableId) (first : Nat) (entries : List (List Byte)) (s : State) :
    KeepsCounts s (writeEntries id first entries s).state := by
  cases id <;> dsimp only [writeEntries]
  case speedCurve =>
    split
    · exact .refl s
    · exact accepted_keepsCounts (.of_only (acceptCurve_only _ s))
  case classes =>
    split
    · exact .refl s
    · exact .of_only (acceptClasses_only _ s)
  case route =>
    split
    · exact .refl s
    · exact acceptRoute_keepsCounts _ s
  case fixedSets | bassSets | trebleSets => exact accepted_keepsCounts (writeSets_keepsCounts _ _ _ s)
  all_goals exact accepted_keepsCounts (acceptNums_keepsCounts _ _ _ _ s)

theorem handleTableWrite_keepsCounts (p : List Byte) (s : State) : KeepsCounts s (handleTableWrite p s).state := by
  unfold handleTableWrite
  split
  · split
    · exact .refl s
    · split
      · exact .refl s
      · split
        · exact .refl s
        · exact writeEntries_keepsCounts _ _ _ s
  · exact .refl s

theorem handlePatchPut_keepsCounts (p : List Byte) (s : State) : KeepsCounts s (handlePatchPut p s).state := by
  unfold handlePatchPut
  split
  · split
    · exact .refl s
    · dsimp only
      split
      · exact .refl s
      · split
        · exact .refl s
        · split
          · exact .refl s
          · exact (acceptNums_keepsCounts _ _ _ _ s).trans ⟨rfl, rfl, rfl⟩
  · exact .refl s

theorem placeAllNums_keepsCounts (f : FactoryImage) : ∀ (l : List TableId) (s : State),
    KeepsCounts s (l.foldl (placeNums f) s)
  | [], s => .refl s
  | _ :: l, s => (acceptNums_keepsCounts _ _ _ _ s).trans (placeAllNums_keepsCounts f l _)

theorem placeFactory_keepsCounts (f : FactoryImage) (s : State) : KeepsCounts s (placeFactory f s) := by
  refine KeepsCounts.trans ?_ (writeSets_keepsCounts _ _ _ _)
  refine KeepsCounts.trans ?_ (placeAllNums_keepsCounts f _ _)
  refine KeepsCounts.trans ?_ (acceptRoute_keepsCounts _ _)
  refine KeepsCounts.trans ?_ (.of_only (acceptClasses_only _ _))
  exact (placeAllNums_keepsCounts f _ s).trans (.of_only (acceptCurve_only _ _))

theorem finishLoad_keepsCounts (s : State) : KeepsCounts s (finishLoad s) := by
  have hended : ∀ u : State, KeepsCounts u (endLoading u) := fun u =>
    .of_delays (endLoading_keepsDelays u) (endLoading_only u)
  exact ((KeepsCounts.of_only (placeScene_only s)).trans (hended _)).trans (grantNext_keepsCounts _)

theorem completeLoad_keepsCounts (s : State) : KeepsCounts s (completeLoad s) := by
  by_cases hload : s.store.running = some .load
  · by_cases hv : s.store.factoryState = .valid
    · have hplaced : KeepsCounts s (loadPlaced s) := placeFactory_keepsCounts s.store.factory (loadFreed s)
      rw [completeLoad_valid hload hv]
      exact (hplaced.trans (.of_only (loadPatched_only s))).trans (finishLoad_keepsCounts _)
    · rw [completeLoad_invalid hload hv]
      exact (KeepsCounts.of_only (loadUnplaced_only s)).trans (finishLoad_keepsCounts _)
  · rw [completeLoad, if_neg hload]
    exact .refl s

/-! The store's operations. -/

theorem acceptHost_keepsCounts (op : HostOp) (s : State) : KeepsCounts s (acceptHost op s) := .of_only (acceptHost_only op s)

theorem handleSave_keepsCounts (p : List Byte) (s : State) : KeepsCounts s (handleSave p s).state := by
  unfold handleSave
  split
  · split
    · exact .refl s
    · split
      · exact .refl s
      · split
        · split
          · exact .refl s
          · exact (mapSets_keepsCounts _ s).trans (acceptHost_keepsCounts _ _)
        · split <;> exact acceptHost_keepsCounts _ s
  · exact .refl s

theorem completeSave_keepsCounts (ok : Bool) (s : State) : KeepsCounts s (completeSave ok s) := by
  have hdone : ∀ op, KeepsCounts s (hostDone op ok s) := fun op => .of_only (hostDone_only op ok s)
  unfold completeSave
  split
  · refine KeepsCounts.trans ?_ (grantNext_keepsCounts _)
    exact .ite (fun _ => (hdone _).trans (mapSets_keepsCounts _ _)) fun _ => hdone _
  · exact (hdone _).trans (grantNext_keepsCounts _)
  · exact (hdone _).trans (grantNext_keepsCounts _)
  · exact .refl s

theorem completeClose_keepsCounts (ok : Bool) (s : State) : KeepsCounts s (completeClose ok s) := by
  unfold completeClose
  split
  · exact (KeepsCounts.of_only (hostDone_only _ ok s)).trans (grantNext_keepsCounts _)
  · exact .refl s

/-! Sending. -/

theorem beginNext_keepsCounts (s : State) : KeepsCounts s (beginNext s) :=
  .of_delays (beginNext_keepsDelays s) (beginNext_only s)

theorem pump_keepsCounts (s : State) : KeepsCounts s (pump s) := .of_delays (pump_keepsDelays s) (pump_only s)

end Sys2Proof
end

section
/-! SUPPORT. Every step keeps the part's shape. -/

set_option Elab.async false

namespace Sys2Proof

open Sys2Proof.Machine

/-! ## The planner, the mixer, the ramp unit and the equaliser -/

theorem handleSet_shapeOk (p : List Byte) {s : State} (hs : ShapeOk s) : ShapeOk (handleSet p s).state := by
  refine hs.of_blocks (handleSet_only p s) (?_ : PlannerShape _)
  obtain ⟨hlive, hwaiting, htargets, htone, hread⟩ := hs.block .planner
  unfold handleSet
  split
  · exact ⟨hlive, hwaiting, htargets, htone, hread⟩
  · dsimp only
    split
    · exact ⟨hlive, hwaiting, htargets, htone, hread⟩
    · exact ⟨hlive, (placePairs_length _ _).trans hwaiting, htargets, htone, hread⟩

theorem handleCommit_shapeOk {s : State} (hs : ShapeOk s) : ShapeOk (handleCommit s).state := by
  obtain ⟨hlive, hwaiting, htargets, htone, hread⟩ := hs.block .planner
  obtain ⟨u, hu, honly, hplanner⟩ := handleCommit_planner s
  rw [hu]
  refine hs.of_blocks honly (?_ : PlannerShape u.planner)
  rw [hplanner]
  exact ⟨hlive, hwaiting, htargets, htone, hread⟩

theorem commitIfMarked_shapeOk {s : State} (hs : ShapeOk s) : ShapeOk (commitIfMarked s) := by
  refine hs.of_blocks (commitIfMarked_only s) ⟨(?_ : PlannerShape _), trivial⟩
  unfold commitIfMarked
  split
  · obtain ⟨hlive, hwaiting, htargets, htone, hread⟩ := hs.block .planner
    rw [takeCommit_planner]
    exact ⟨(commitScene_length _ _).trans hlive, (List.length_map _).trans hwaiting, htargets, htone, hread⟩
  · exact hs.block .planner

theorem length_map_range {α : Type} (n : Nat) (f : Nat → α) : ((List.range n).map f).length = n :=
  (List.length_map f).trans List.length_range

theorem computePlan_shapeOk {s : State} (hs : ShapeOk s) : ShapeOk (computePlan s) := by
  obtain ⟨hlive, hwaiting, -⟩ := hs.block .planner
  refine hs.of_blocks (computePlan_only s) ⟨(?_ : PlannerShape _), (length_map_range _ _ : List.length _ = 24)⟩
  exact ⟨hlive, hwaiting, length_map_range _ _, length_map_range _ _, length_map_range _ _⟩

theorem KeepsGains.rampShape {s t : State} (h : KeepsGains s t) (hs : ShapeOk s) : BlockShape t .ramp :=
  (congrArg List.length h.2).trans (hs.block .ramp)

theorem rampUnitBoundary_rampShape (s : State) : BlockShape (rampUnitBoundary s) .ramp := by
  have hclamped : (clampApplied s).ramp.applied.length = 24 := length_map_range _ _
  have hadvanced : (advanceDivider (clampApplied s)).ramp.applied.length = 24 := by
    unfold advanceDivider
    split
    · exact length_map_range _ _
    · exact hclamped
  have hdrained := (checkDrain_keepsGains .slot1 (advanceDivider (clampApplied s))).trans (checkDrain_keepsGains .slot2 _)
  exact (congrArg List.length hdrained.2).trans hadvanced

theorem rampUnitBoundary_shapeOk {s : State} (hs : ShapeOk s) : ShapeOk (rampUnitBoundary s) :=
  hs.of_blocks (rampUnitBoundary_only s)
    ⟨rampUnitBoundary_rampShape s, (rampUnitBoundary_keepsCounts s).outputShape hs⟩

theorem eqBoundary_eqShape {s : State} (hs : ShapeOk s) : BlockShape (eqBoundary s) .eq := by
  obtain ⟨hchannels, hsections⟩ := hs.block .eq
  have hchecks : ∀ (l : List Nat) (s : State), (l.foldl (fun s i => examine i s) s).eq = s.eq := by
    intro l
    induction l with
    | nil => exact fun _ => rfl
    | cons i l ih => exact fun s => (ih _).trans (examine_only i s).eq
  have heq : (eqBoundary s).eq =
      s.eq.zipIdx.map fun p => p.1.zipIdx.map fun q => readWords s (reselect s p.2 q.2 q.1) := hchecks _ _
  rw [BlockShape, heq]
  refine ⟨by rw [List.length_map, List.length_zipIdx, hchannels], fun ch hch => ?_⟩
  obtain ⟨p, hp, rfl⟩ := List.mem_map.mp hch
  rw [List.length_map, List.length_zipIdx]
  exact hsections _ (List.fst_mem_of_mem_zipIdx hp)

theorem runSections_length : ∀ (l : List EqSection) (x : Int), (runSections l x).1.length = l.length
  | [], _ => rfl
  | _ :: l, _ => congrArg (· + 1) (runSections_length l _)

theorem samplePeriod_shapeOk (p : Ports) {s : State} (hs : ShapeOk s) : ShapeOk (samplePeriod p s) := by
  obtain ⟨hchannels, hsections⟩ := hs.block .eq
  have heq : BlockShape (samplePeriod p s) .eq := by
    refine ⟨(List.length_map _).trans (length_map_range _ _), fun ch hch => ?_⟩
    obtain ⟨r, hr, rfl⟩ := List.mem_map.mp hch
    obtain ⟨c, hc, rfl⟩ := List.mem_map.mp hr
    have hc : c < s.eq.length := (List.mem_range.mp hc).trans_eq hchannels.symm
    refine (runSections_length _ _).trans ?_
    rw [List.getD_eq_getElem _ _ hc]
    exact hsections _ (List.getElem_mem hc)
  have hlines : BlockShape (samplePeriod p s) .lines := (List.length_map _).trans (length_map_range _ _)
  have hout : BlockShape (samplePeriod p s) .output :=
    ((List.length_map _).trans List.length_zipIdx).trans (hs.block .output)
  exact hs.of_blocks (samplePeriod_only p s) ⟨heq, hlines, hout, trivial⟩

/-! ## The store -/

theorem StoreShape.run {st : Store} (h : StoreShape st) (op : Option StoreOp)
    (hop : ∀ x, op = some (.host x) → HostOpShapeOk x) : StoreShape { st with running := op } :=
  ⟨h.start, h.sets, h.waiting, hop⟩

theorem StoreShape.interrupted {st : Store} (h : StoreShape st) : StoreShape st.interrupted := by
  unfold Store.interrupted
  dsimp only
  split <;> exact ⟨h.start, h.sets, nofun, nofun⟩

theorem beginHost_storeShape {s : State} (h : StoreShape s.store) : StoreShape (beginHost s).store := by
  unfold beginHost
  split
  · exact h
  next op hop => exact ⟨h.start, h.sets, nofun, fun x e => by cases e; exact h.waiting op hop⟩

theorem beginRead_storeShape {s : State} (h : StoreShape s.store) : StoreShape (beginRead s).store := by
  unfold beginRead
  split
  · exact h
  · rw [(recordTransition_only _ _ _ _).store]
    exact h.run (some .readSet) nofun

theorem grantNext_storeShape {s : State} (h : StoreShape s.store) : StoreShape (grantNext s).store := by
  unfold grantNext
  split
  · exact beginRead_storeShape h
  · exact beginHost_storeShape h

theorem completeRead_storeShape {s : State} (ok : Bool) (h : StoreShape s.store) : StoreShape (completeRead ok s).store := by
  unfold completeRead
  split
  · exact h
  · refine grantNext_storeShape ?_
    rw [(readOutcome_only _ _ _).store]
    exact h.run none nofun

theorem acceptHost_storeShape {s : State} {op : HostOp} (h : StoreShape s.store) (hop : HostOpShapeOk op) :
    StoreShape (acceptHost op s).store := by
  unfold acceptHost
  split
  · exact h.run _ fun x e => by cases e; exact hop
  · exact ⟨h.start, h.sets, fun x e => by cases e; exact hop, h.running⟩

/-- What a SAVE captures has the shape of what it captures. -/
theorem handleSave_storeShape (p : List Byte) {s : State} (hs : ShapeOk s) : StoreShape (handleSave p s).state.store := by
  have hst : StoreShape s.store := hs.block .store
  have hsets : s.integrity.sets.length = 344 := hs.block .integrity
  have hplanner : PlannerShape s.planner := hs.block .planner
  unfold handleSave
  split
  · split
    · exact hst
    · split
      · exact hst
      · split
        · split
          · exact hst
          · exact acceptHost_storeShape (s := markAccepted s) (op := .saveFactory (captureFactory s)) hst
              ((List.length_map _).trans hsets)
        · split
          · exact acceptHost_storeShape hst (op := .saveDealer s.patches) trivial
          · exact acceptHost_storeShape hst (op := .saveStart s.planner.live) hplanner.live
  · exact hst

theorem handleClose_storeShape {s : State} (h : StoreShape s.store) : StoreShape (handleClose s).state.store := by
  unfold handleClose
  split
  · exact h
  · split
    · exact h
    · split
      · exact h
      · exact acceptHost_storeShape h (op := .close) trivial

/-- A save that completes puts in its region what it captured. -/
theorem hostDone_storeShape {s : State} {op : HostOp} (ok : Bool) (h : StoreShape s.store) (hop : HostOpShapeOk op) :
    StoreShape (hostDone op ok s).store := by
  rw [hostDone, (post_only _ _).store]
  cases op with
  | saveFactory image => exact ⟨h.start, hop, h.waiting, nofun⟩
  | saveDealer l => exact ⟨h.start, h.sets, h.waiting, nofun⟩
  | saveStart sc => exact ⟨hop, h.sets, h.waiting, nofun⟩
  | close => exact ⟨h.start, h.sets, h.waiting, nofun⟩

theorem completeSave_storeShape {s : State} (ok : Bool) (h : StoreShape s.store) : StoreShape (completeSave ok s).store := by
  unfold completeSave
  split
  next image hrun =>
    have hdone := hostDone_storeShape ok h (h.running _ hrun)
    refine grantNext_storeShape ?_
    split <;> exact hdone
  next l hrun => exact grantNext_storeShape (hostDone_storeShape ok h (h.running _ hrun))
  next sc hrun => exact grantNext_storeShape (hostDone_storeShape ok h (h.running _ hrun))
  next => exact h

theorem completeClose_storeShape {s : State} (ok : Bool) (h : StoreShape s.store) :
    StoreShape (completeClose ok s).store := by
  unfold completeClose
  split
  next hrun => exact grantNext_storeShape (hostDone_storeShape ok h (h.running _ hrun))
  next => exact h

theorem damageStored_shapeOk (i : Nat) (f : Words) {s : State} (hs : ShapeOk s) : ShapeOk (damageStored i f s) := by
  obtain ⟨hstart, hsets, hwaiting, hrunning⟩ := hs.block .store
  refine hs.of_blocks (withStore_only s _) (?_ : StoreShape (damageStored i f s).store)
  exact ⟨hstart, (List.length_modify _ _ _).trans hsets, hwaiting, hrunning⟩

/-! ## LOAD -/

theorem finishLoad_shape {s : State} (hplanner : PlannerShape s.planner) (hst : StoreShape s.store) :
    PlannerShape (finishLoad s).planner ∧ StoreShape (finishLoad s).store := by
  obtain ⟨hlive, hwaiting, htargets, htone, hread⟩ := hplanner
  refine ⟨?_, grantNext_storeShape ?_⟩
  · rw [finishLoad_planner]
    exact ⟨(loadedScene_val hst.start hlive).1, hwaiting, htargets, htone, hread⟩
  · rw [(endLoading_only _).store, (placeScene_only _).store]
    exact hst

theorem completeLoad_shapeOk {s : State} (hs : ShapeOk s) : ShapeOk (completeLoad s) := by
  have hcounts := completeLoad_keepsCounts s
  have hshape : PlannerShape (completeLoad s).planner ∧ StoreShape (completeLoad s).store := by
    have hst : StoreShape s.store := hs.block .store
    have hplanner : PlannerShape s.planner := hs.block .planner
    by_cases hload : s.store.running = some .load
    · have hfreed : StoreShape { s.store with running := none } := hst.run none nofun
      by_cases hv : s.store.factoryState = .valid
      · rw [completeLoad_valid hload hv]
        refine finishLoad_shape ?_ ?_
        · rwa [(loadPatched_only s).planner, loadPlaced_planner]
        · rwa [(loadPatched_only s).store, loadPlaced_store]
      · rw [completeLoad_invalid hload hv]
        refine finishLoad_shape ?_ ?_
        · rwa [(loadUnplaced_only s).planner]
        · rwa [loadUnplaced_store]
    · rw [completeLoad, if_neg hload]
      exact ⟨hplanner, hst⟩
  exact hs.of_blocks (completeLoad_only s) ⟨trivial, hshape.1, (completeLoad_keepsGains s).rampShape hs,
    hcounts.outputShape hs, trivial, trivial, hcounts.setsShape hs, trivial, hshape.2, trivial, trivial, trivial⟩

/-! ## Every event -/

theorem ShapeOk.of_frame {l : List Block} {s t : State} (hs : ShapeOk s) (h : Only l s t)
    (hl : ∀ b ∈ l, b ∉ [Block.planner, .mixer, .ramp, .output, .lines, .eq, .integrity, .store] := by decide) : ShapeOk t := by
  refine hs.of_blocks h (List.forall_iff_forall_mem.mpr fun b hb => ?_)
  have hno := hl b hb
  cases b
  case planner | mixer | ramp | output | lines | eq | integrity | store => exact absurd (by decide) hno
  all_goals trivial

/-- Of what an event that keeps the counts touches, nothing else bears on the shape. -/
theorem ShapeOk.of_counts {l : List Block} {s t : State} (hs : ShapeOk s) (h : Only l s t) (hc : KeepsCounts s t)
    (hl : ∀ b ∈ l, b ∉ [Block.planner, .mixer, .ramp, .eq, .store] := by decide) : ShapeOk t := by
  refine hs.of_blocks h (List.forall_iff_forall_mem.mpr fun b hb => ?_)
  have hno := hl b hb
  cases b
  case planner | mixer | ramp | eq | store => exact absurd (by decide) hno
  case output => exact hc.outputShape hs
  case lines => exact hc.linesShape hs
  case integrity => exact hc.setsShape hs
  all_goals trivial

theorem effect_shapeOk (c : Instr) {s : State} (hs : ShapeOk s) : ShapeOk (effect c s) := by
  have request : ∀ {kind tag lengthOk ready} {handle : State → Handled},
      (∀ s, ShapeOk s → ShapeOk (handle s).state) → ShapeOk (taken kind tag lengthOk ready handle s) :=
    fun hh => taken_keeps (fun s _ h => h.of_frame (withLink_only s _)) hh hs _ _ _ _
  have ite : ∀ {t : State} {p : Prop} [Decidable p], ShapeOk t → ShapeOk (if p then t else s) := fun h => by
    split
    · exact h
    · exact hs
  have hf := effect_only c s
  have hst : StoreShape s.store := hs.block .store
  cases c
  all_goals dsimp only [touches] at hf
  case set p => exact request fun s h => handleSet_shapeOk p h
  case commit => exact request fun s h => handleCommit_shapeOk h
  case tableWrite p =>
    refine request fun s h => h.of_blocks (handleTableWrite_only p s) ?_
    have hcounts := handleTableWrite_keepsCounts p s
    exact ⟨trivial, (handleTableWrite_keepsGains p s).rampShape h, trivial, hcounts.outputShape h, trivial,
      hcounts.setsShape h, trivial, trivial⟩
  case patchPut p =>
    refine request fun s h => h.of_blocks (handlePatchPut_only p s) ?_
    exact ⟨trivial, (handlePatchPut_keepsGains p s).rampShape h, trivial, (handlePatchPut_keepsCounts p s).outputShape h,
      trivial, trivial⟩
  case save p =>
    exact request fun s h => h.of_blocks (handleSave_only p s)
      ⟨handleSave_storeShape p h, (handleSave_keepsCounts p s).setsShape h⟩
  case closeFactory =>
    exact request fun s h => h.of_blocks (handleClose_only s) (handleClose_storeShape (h.block .store))
  case counters p => exact request fun s h => h.of_counts (handleCounters_only p s) (handleCounters_keepsCounts p s)
  case commitTaken => exact commitIfMarked_shapeOk hs
  case plannerBoundary => exact computePlan_shapeOk (commitIfMarked_shapeOk hs)
  case rampBoundary => exact rampUnitBoundary_shapeOk hs
  case rampStep => exact ite (rampUnitBoundary_shapeOk hs)
  case drainCompletion k => exact hs.of_blocks hf ⟨(takeDrain_keepsGains k s).rampShape hs, trivial, trivial⟩
  case outputStageStep => exact hs.of_counts hf (outputBoundary_keepsCounts s)
  case applyDelay => exact hs.of_counts hf (applyDelays_keepsCounts s)
  case eqBoundary =>
    have hcounts := eqBoundary_keepsCounts s
    exact hs.of_blocks hf ⟨eqBoundary_eqShape hs, hcounts.setsShape hs, hcounts.outputShape hs, trivial⟩
  case scannerCheck => exact hs.of_counts hf (scan_keepsCounts s)
  case upset => exact hs.of_counts hf (modifySet_keepsCounts _ _ s)
  case readSetBegin =>
    exact ite (hs.of_blocks (beginRead_only s)
      ⟨(beginRead_keepsCounts s).setsShape hs, trivial, beginRead_storeShape hst, trivial⟩)
  case readSetComplete ok =>
    have hcounts := completeRead_keepsCounts ok s
    exact hs.of_blocks hf
      ⟨hcounts.setsShape hs, hcounts.outputShape hs, trivial, trivial, completeRead_storeShape ok hst⟩
  case supplyReading => exact hs.of_counts hf (takeReading_keepsCounts _ s)
  case runComplete => exact ite (hs.of_counts (takeReading_only _ s) (takeReading_keepsCounts _ s))
  case settleComplete => exact ite (hs.of_counts (takeReading_only _ s) (takeReading_keepsCounts _ s))
  case loadComplete => exact completeLoad_shapeOk hs
  case hostOperationBegin => exact ite (hs.of_blocks (beginHost_only s) (beginHost_storeShape hst))
  case saveComplete ok =>
    exact hs.of_blocks hf ⟨completeSave_storeShape ok hst, (completeSave_keepsCounts ok s).setsShape hs, trivial, trivial⟩
  case closeComplete ok =>
    exact hs.of_blocks hf ⟨completeClose_storeShape ok hst, (completeClose_keepsCounts ok s).setsShape hs, trivial, trivial⟩
  case samplePeriod p => exact samplePeriod_shapeOk p hs
  all_goals exact hs.of_frame hf

/-! ## Reset -/

theorem enterReset_shapeOk (h : Hold) {s : State} (hs : ShapeOk s) : ShapeOk (enterReset h s) :=
  hs.of_blocks (enterReset_only h s) ⟨StoreShape.interrupted (hs.block .store), trivial, trivial, trivial, trivial⟩

theorem frameSent_shapeOk {s : State} (hs : ShapeOk s) : ShapeOk (frameSent s) := by
  unfold frameSent
  split
  · exact hs
  · split
    · exact enterReset_shapeOk _ hs
    · exact (hs.of_frame (withLink_only s _)).of_counts (beginNext_only _) (beginNext_keepsCounts _)

theorem reset_shapeOk : ShapeOk State.reset := by
  rw [shapeOk_iff]
  intro b
  cases b
  case planner => exact ⟨rfl, rfl, List.length_replicate, List.length_replicate, List.length_replicate⟩
  case store => exact ⟨rfl, List.length_replicate, nofun, nofun⟩
  case eq =>
    refine ⟨length_map_range _ _, fun ch hch => ?_⟩
    obtain ⟨c, -, rfl⟩ := List.mem_map.mp hch
    exact length_map_range _ _
  case mixer | ramp | output | lines | integrity => exact List.length_replicate
  all_goals trivial

/-- A release gives every volatile block its reset shape and keeps the store's contents. -/
theorem release_shapeOk (e : Hold) {s : State} (hs : ShapeOk s) : ShapeOk (release e s) := by
  obtain ⟨hstart, hsets, -⟩ := hs.block .store
  rw [shapeOk_iff]
  intro b
  cases b
  case store => exact ⟨hstart, hsets, nofun, nofun⟩
  case planner => exact reset_shapeOk.block .planner
  case eq => exact reset_shapeOk.block .eq
  case mixer | ramp | output | lines | integrity => exact List.length_replicate
  all_goals trivial

/-- Settles O5, block by block. -/
theorem shapeKept : Obligations.ShapeKept := by
  intro s t hs h
  refine step_keeps (P := ShapeOk) (fun s _ h => h.of_frame (withPending_only s _)) (fun s _ h => h)
    (fun s _ h => h.of_frame (withLink_only s _)) (fun c s t hs h => ?_) hs h
  exact exec_keeps (P := ShapeOk) (fun c s _ h => (effect_shapeOk c h).of_counts (pump_only _) (pump_keepsCounts _))
    (fun s h => frameSent_shapeOk h) (fun e s h => enterReset_shapeOk e h)
    (fun s h => (enterReset_shapeOk .supplyCut h).of_frame (withHold_only _ _))
    (fun e s h => h.of_frame (withHold_only s _)) (fun e s h => release_shapeOk e h)
    (fun i f s h => damageStored_shapeOk i f h) hs h

end Sys2Proof
end

section
/-! SUPPORT. The state right after reset meets the invariants. -/

set_option Elab.async false

namespace Sys2Proof

open Sys2Proof.Machine

theorem getD_replicate_same {α : Type} (n i : Nat) (a : α) : (List.replicate n a).getD i a = a := by
  rw [List.getD_eq_getElem?_getD, List.getElem?_replicate]
  split <;> rfl

/-! ## The records after reset -/

theorem reset_outChan (c : Nat) : State.reset.outChan c = OutChan.reset := getD_replicate_same 24 c _

theorem reset_coeffSet (i : Nat) : State.reset.coeffSet i = CoeffSet.reset := getD_replicate_same 344 i _

theorem reset_routeOf (c : Nat) : State.reset.tables.routeOf c = Route.builtin := getD_replicate_same 24 c _

theorem mem_reset_output {o : OutChan} (h : o ∈ State.reset.output) : o = OutChan.reset := List.eq_of_mem_replicate h

/-! ## The invariants after reset -/

/-- Both queues are empty (R179, R181, R182). -/
theorem reset_linkOk : LinkOk State.reset.link := ⟨Nat.zero_le _, List.nodup_nil, fun _ => ⟨rfl, rfl⟩⟩

/-- The built-in tables are valid, and the new part's store holds no VALID region and no save. -/
theorem reset_tablesOk : TablesOk State.reset := ⟨builtin_tables_valid, nofun, nofun, nofun⟩

/-- Every fader is CLOSED at −480 with reasons (R59). -/
theorem reset_fadersOk : FadersOk State.reset := by
  intro o ho
  rw [mem_reset_output ho]
  unfold FaderOk
  decide

/-- The monitor is SETTLING, the part LOADING, and every channel disabled (R59, R135, R172). -/
theorem reset_reasonsOk : ReasonsOk State.reset := by
  have hsupply : SupplyOk State.reset := by
    refine ⟨fun o ho => ?_, by decide, fun h => ?_⟩
    · rw [mem_reset_output ho]
      exact ⟨rfl, rfl⟩
    · obtain h | h := h <;> cases h
  have hstartup : StartupOk State.reset := by
    refine ⟨fun o ho => ?_, fun _ => rfl⟩
    rw [mem_reset_output ho]
    rfl
  have hdisabled : DisabledOk State.reset := by
    refine ⟨List.length_replicate, fun c _ => ?_⟩
    rw [reset_outChan, reset_routeOf]
    rfl
  exact ⟨hsupply, hstartup, hdisabled⟩

/-- Every class is IDLE and every slot FREE (R112, R113). -/
theorem reset_settled : Settled State.reset := by
  refine ⟨fun k slot => ?_, by decide⟩
  have hclass : (State.reset.arbiter.classes.get k).state = .idle := by cases k <;> rfl
  have hslot : State.reset.arbiter.slots.get slot = .free := by cases slot <;> rfl
  rw [hclass, hslot]
  simp

/-- Every set is GOOD and none waits (R148, R152). -/
theorem reset_queueOk : QueueOk State.reset := by
  refine ⟨List.length_replicate, List.nodup_nil, fun i => ⟨nofun, fun h => ?_⟩⟩
  rw [reset_coeffSet] at h
  cases h.2

theorem reset_readOk : ReadOk State.reset := ⟨⟨fun h => absurd rfl h, nofun⟩, nofun⟩

/-- No channel has FAULT, and every fixed set is GOOD (R148, R153). -/
theorem reset_faultOk : FaultOk State.reset := by
  refine ⟨List.length_replicate, List.length_replicate, fun c _ => ?_⟩
  rw [reset_outChan]
  refine ⟨nofun, fun ⟨k, _, hk⟩ => ?_⟩
  rw [reset_coeffSet] at hk
  exact absurd rfl hk

theorem reset_patchesOk : PatchesOk State.reset :=
  have hempty : PatchListOk [] := ⟨Nat.zero_le _, List.nodup_nil⟩
  ⟨hempty, hempty, nofun, nofun⟩

/-- Every value of the tracker is 0, its state STALE, the built-in source REPORT (R71, R72). -/
theorem reset_trackerOk : TrackerOk State.reset := by
  unfold TrackerOk
  decide

/-- Settles O3, invariant by invariant. -/
theorem resetMeetsTheInvariants : Obligations.ResetMeetsTheInvariants :=
  ⟨reset_linkOk, reset_shapeOk, reset_tablesOk, reset_fadersOk, reset_reasonsOk, reset_settled, reset_queueOk, reset_readOk,
    reset_faultOk, reset_patchesOk, reset_trackerOk, reset_gainsOk,
    (release_linesOk .supplyCut State.reset).keep ⟨rfl, rfl⟩⟩

end Sys2Proof
end

section
/-! SUPPORT. Close-reason sets, the fader record under each operation of the output stage, and the statement on reasons. -/

set_option Elab.async false

namespace Sys2Proof

open Sys2Proof.Machine

/-! ## Close-reason sets (R59 to R62) -/

theorem isEmpty_iff_eq (r : Reasons) : r.isEmpty = true ↔ r = ⟨false, false, false, false, false⟩ := by
  obtain ⟨startup, supply, fault, delay, disabled⟩ := r
  simp [Reasons.isEmpty, and_assoc]

/-- A set with a member is not empty. -/
theorem isEmpty_of_has {r : Reasons} {x : Reason} (h : r.has x = true) : r.isEmpty = false := by
  rw [Bool.eq_false_iff, Ne, isEmpty_iff_eq]
  rintro rfl
  cases x <;> cases h

@[simp] theorem has_put_same (r : Reasons) (x : Reason) (b : Bool) : (r.put x b).has x = b := by cases x <;> rfl

theorem isEmpty_put_true (r : Reasons) (x : Reason) : (r.put x true).isEmpty = false :=
  isEmpty_of_has (has_put_same r x true)

/-! ## A reason removed (R62, R68) -/

section
variable {x : Reason} {o : OutChan}

theorem removeReason_of_absent (h : o.fader.reasons.has x = false) : o.removeReason x = o := by
  simp [OutChan.removeReason, h]

theorem removeReason_of_rest (h : o.fader.reasons.has x = true) (hrest : (o.fader.reasons.put x false).isEmpty = false) :
    o.removeReason x = { o with fader := { o.fader with reasons := o.fader.reasons.put x false } } := by
  simp [OutChan.removeReason, h, hrest]

/-- DELAY takes the place of the last reason (R68). -/
theorem removeReason_of_pending (h : o.fader.reasons.has x = true) (hrest : (o.fader.reasons.put x false).isEmpty = true)
    (hd : o.pendingDelay ≠ none) : o.removeReason x =
      { o with fader := { o.fader with reasons := (o.fader.reasons.put x false).put .delay true } } := by
  simp [OutChan.removeReason, h, hrest, Option.isSome_iff_ne_none.mpr hd]

/-- The last reason gone, the fader turns (R62). -/
theorem removeReason_of_last (h : o.fader.reasons.has x = true) (hrest : (o.fader.reasons.put x false).isEmpty = true)
    (hd : o.pendingDelay = none) : o.removeReason x =
      { o with fader := { o.fader with
          reasons := o.fader.reasons.put x false
          state := if o.fader.state = .closed ∨ o.fader.state = .closing then .opening else o.fader.state } } := by
  simp [OutChan.removeReason, h, hrest, hd]

end

/-- Settles O21: the addition by whether the set was empty, the removal by the branches of R62 and R68. -/
theorem reasonsMoveFaders : Obligations.ReasonsMoveFaders := by
  intro x o
  refine ⟨?_, removeReason_of_absent, fun h => ?_⟩
  · simp only [OutChan.addReason, ← isEmpty_iff_eq, Bool.and_eq_true, Bool.or_eq_true, decide_eq_true_eq]
  · simp only [← isEmpty_iff_eq]
    cases hrest : (o.fader.reasons.put x false).isEmpty with
    | false => simp [removeReason_of_rest h hrest]
    | true =>
      by_cases hd : o.pendingDelay = none
      · simp [removeReason_of_last h hrest hd, hd]
      · simp [removeReason_of_pending h hrest hd, hd]

/-! ## The invariant of one record (R60, R63, R64, R68) -/

/-- What FaderOk says of the fader alone. -/
structure FaderSound (f : Fader) : Prop where
  follows : f.reasons.isEmpty = true ↔ f.state = .opened ∨ f.state = .opening
  le_zero : f.level ≤ 0
  no_gap : f.level = -480 ∨ -240 ≤ f.level
  closed : f.state = .closed → f.level = -480
  opened : f.state = .opened → f.level = 0

theorem faderOk_iff (o : OutChan) :
    FaderOk o ↔ FaderSound o.fader ∧ (o.pendingDelay ≠ none → o.fader.reasons.isEmpty = false) := by
  constructor
  · rintro ⟨hfollows, hpending, hzero, hgap, hclosed, hopened⟩
    exact ⟨⟨hfollows, hzero, hgap, hclosed, hopened⟩, hpending⟩
  · rintro ⟨⟨hfollows, hzero, hgap, hclosed, hopened⟩, hpending⟩
    exact ⟨hfollows, hpending, hzero, hgap, hclosed, hopened⟩

theorem FaderOk.sound {o : OutChan} (h : FaderOk o) : FaderSound o.fader := ((faderOk_iff o).mp h).1

theorem FaderOk.pending {o : OutChan} (h : FaderOk o) : o.pendingDelay ≠ none → o.fader.reasons.isEmpty = false :=
  ((faderOk_iff o).mp h).2

/-- The invariant reads the fader and the pending delay alone. -/
theorem FaderOk.congr {o p : OutChan} (h : FaderOk o) (hf : p.fader = o.fader) (hd : p.pendingDelay = o.pendingDelay) :
    FaderOk p := by
  rw [faderOk_iff, hf, hd]
  exact (faderOk_iff o).mp h

/-- A set that is not empty may be changed into another such set. -/
theorem FaderSound.withReasons {f : Fader} (h : FaderSound f) {r : Reasons} (hold : f.reasons.isEmpty = false)
    (hnew : r.isEmpty = false) : FaderSound { f with reasons := r } := by
  refine ⟨?_, h.le_zero, h.no_gap, h.closed, h.opened⟩
  rw [hnew, ← hold]
  exact h.follows

/-- A reason added keeps a sound record and leaves it with a reason, whether a delay is pending or not (R60, R61). -/
theorem addReason_faderOk (x : Reason) {o : OutChan} (h : FaderSound o.fader) : FaderOk (o.addReason x) := by
  have hnew := isEmpty_put_true o.fader.reasons x
  rw [faderOk_iff]
  refine ⟨?_, fun _ => hnew⟩
  cases hempty : o.fader.reasons.isEmpty with
  | false =>
    have hadd : (o.addReason x).fader = { o.fader with reasons := o.fader.reasons.put x true } := by
      simp [OutChan.addReason, hempty]
    rw [hadd]
    exact h.withReasons hempty hnew
  | true =>
    have hadd : (o.addReason x).fader = { o.fader with reasons := o.fader.reasons.put x true, state := .closing } := by
      have hstate := h.follows.mp hempty
      simp [OutChan.addReason, hempty, hstate]
    rw [hadd]
    exact ⟨by simp [hnew], h.le_zero, h.no_gap, nofun, nofun⟩

/-- A reason removed keeps the invariant: the set empties only where no delay is pending, and then the fader turns (R60, R62,
R68). -/
theorem removeReason_faderOk (x : Reason) {o : OutChan} (h : FaderOk o) : FaderOk (o.removeReason x) := by
  cases hx : o.fader.reasons.has x with
  | false => rwa [removeReason_of_absent hx]
  | true =>
    have hold := isEmpty_of_has hx
    cases hrest : (o.fader.reasons.put x false).isEmpty with
    | false =>
      rw [removeReason_of_rest hx hrest, faderOk_iff]
      exact ⟨h.sound.withReasons hold hrest, fun _ => hrest⟩
    | true =>
      by_cases hd : o.pendingDelay = none
      · have hturns : o.fader.state = .closed ∨ o.fader.state = .closing := by
          have hfollows := h.sound.follows
          rw [hold] at hfollows
          cases hstate : o.fader.state <;> simp [hstate] at hfollows ⊢
        rw [removeReason_of_last hx hrest hd, if_pos hturns, faderOk_iff]
        exact ⟨⟨by simp [hrest], h.sound.le_zero, h.sound.no_gap, nofun, nofun⟩, fun hp => absurd hd hp⟩
      · have hput := isEmpty_put_true (o.fader.reasons.put x false) .delay
        rw [removeReason_of_pending hx hrest hd, faderOk_iff]
        exact ⟨h.sound.withReasons hold hput, fun _ => hput⟩

/-- An opening step rises to 0 at most, and opens the fader there (R64). -/
theorem openFader_faderOk {slew : Int} (hslew : 0 ≤ slew) {o : OutChan} (h : FaderOk o) : FaderOk (openFader slew o) := by
  by_cases hstate : o.fader.state = .opening
  · have hempty := h.sound.follows.mpr (.inr hstate)
    have hpending : o.pendingDelay = none := by
      by_contra hd
      rw [h.pending hd] at hempty
      cases hempty
    have hzero := h.sound.le_zero
    have hgap := h.sound.no_gap
    rw [openFader, if_pos hstate, faderOk_iff]
    refine ⟨⟨?_, ?_, ?_, ?_, ?_⟩, fun hd => absurd hpending hd⟩ <;> dsimp only [OutChan.show]
    · rw [hempty]
      split_ifs <;> simp
    · split_ifs <;> omega
    · split_ifs <;> omega
    · split_ifs <;> exact nofun
    · exact fun hopened => by_contra fun hlevel => by rw [if_neg hlevel] at hopened; cases hopened
  · rwa [openFader, if_neg hstate]

/-- A closing step falls to −240 at least, or shuts the fader (R63). -/
theorem closeFader_faderOk {slew : Int} (hslew : 0 ≤ slew) {o : OutChan} (h : FaderOk o) : FaderOk (closeFader slew o) := by
  have hsound : FaderSound (closeFader slew o).fader := by
    have hzero := h.sound.le_zero
    have hfollows := h.sound.follows
    rw [closeFader_fader]
    split
    · rename_i hshuts
      refine ⟨?_, (by decide : (-480 : Int) ≤ 0), .inl rfl, fun _ => rfl, nofun⟩
      simpa [hshuts.1] using hfollows
    · split
      · rename_i hshuts hclosing
        have hlevel : ¬o.fader.level - slew ≤ -240 := fun hle => hshuts ⟨hclosing, hle⟩
        refine ⟨hfollows, ?_, .inr ?_, fun hclosed => ?_, fun hopened => ?_⟩
        · change o.fader.level - slew ≤ 0
          omega
        · change -240 ≤ o.fader.level - slew
          omega
        · cases hclosing.symm.trans hclosed
        · cases hclosing.symm.trans hopened
      · exact h.sound
  have hpending : (closeFader slew o).pendingDelay = o.pendingDelay := by
    unfold closeFader; dsimp only; split <;> [split <;> rfl; rfl]
  rw [faderOk_iff, closeFader_reasons, hpending]
  exact ⟨hsound, h.pending⟩

/-- The pending delay gone in, DELAY is removed as any reason is (R67). -/
theorem delayGone_faderOk {o : OutChan} (h : FaderOk o) : FaderOk (delayGone o) := by
  unfold delayGone
  split
  · have hgone : FaderOk { o with pendingDelay := none } := (faderOk_iff _).mpr ⟨h.sound, fun hd => absurd rfl hd⟩
    exact (removeReason_faderOk .delay hgone).congr rfl rfl
  · exact h

/-- A delay change begins only behind a reason, its own if there is no other (R65, R66). -/
theorem writeDelay_faderOk (applied v : Nat) {o : OutChan} (h : FaderOk o) : FaderOk (o.writeDelay applied v) := by
  have hadded : FaderOk (OutChan.addReason .delay { o with pendingDelay := some v }) := addReason_faderOk .delay h.sound
  unfold OutChan.writeDelay
  split
  · exact h
  · dsimp only
    split
    · rename_i hclosed
      refine (faderOk_iff _).mpr ⟨h.sound, fun _ => ?_⟩
      simpa [hclosed] using h.sound.follows
    · split
      · rename_i hdisabled
        exact (faderOk_iff _).mpr ⟨h.sound, fun _ => isEmpty_of_has (x := .disabled) hdisabled⟩
      · exact hadded
    · exact hadded
    · exact hadded

theorem writeEnabled_faderOk (was now : Bool) {o : OutChan} (h : FaderOk o) : FaderOk (o.writeEnabled was now) := by
  rw [writeEnabled_eq]
  split
  · exact addReason_faderOk _ h.sound
  · exact removeReason_faderOk _ h
  · exact h

end Sys2Proof
end

section
/-! SUPPORT. Every step keeps the faders in accordance with their close-reason sets. -/

set_option Elab.async false

namespace Sys2Proof

open Sys2Proof.Machine

/-! ## An invariant beside O6's -/

/-- Every step keeps an invariant that every event keeps of a part with valid tables, if the queues and the assembler do not
bear on it. -/
theorem step_keeps_beside_tables {P : State → Prop} (hq : ∀ s l, P s → P (s.withPending l))
    (hr : ∀ s l, P s → P (s.withReceived l)) (hlink : ∀ s l, P s → P (s.withLink l))
    (hev : ∀ c s, TablesOk s → P s → P (effect c s)) (hpump : ∀ s, P s → P (pump s)) (hsent : ∀ s, P s → P (frameSent s))
    (hreset : ∀ h s, P s → P (enterReset h s)) (hhold : ∀ s h, P s → P (s.withHold h))
    (hrelease : ∀ h s, P s → P (release h s)) (hdamage : ∀ i f s, P s → P (damageStored i f s)) {s t : State}
    (ht : TablesOk s) (hs : P s) (h : step s = .next t) : P t := by
  refine (step_keeps (P := fun s => TablesOk s ∧ P s) (fun s l h => ⟨h.1.of_frame (withPending_only s l), hq s l h.2⟩)
    (fun s l h => ⟨h.1, hr s l h.2⟩) (fun s _ h => ⟨h.1.of_frame (withLink_only s _), hlink s _ h.2⟩)
    (fun c s t hs h => ?_) ⟨ht, hs⟩ h).2
  exact exec_keeps (P := fun s => TablesOk s ∧ P s)
    (fun c s _ h => ⟨(effect_tablesOk c h.1).of_frame (pump_only _), hpump _ (hev c s h.1 h.2)⟩)
    (fun s h => ⟨frameSent_tablesOk h.1, hsent s h.2⟩) (fun e s h => ⟨enterReset_tablesOk e h.1, hreset e s h.2⟩)
    (fun s h => ⟨losePower_tablesOk h.1, hhold _ _ (hreset _ s h.2)⟩)
    (fun e s h => ⟨h.1.of_frame (withHold_only s _), hhold s _ h.2⟩)
    (fun e s h => ⟨release_tablesOk e h.1, hrelease e s h.2⟩)
    (fun i f s h => ⟨damageStored_tablesOk i f h.1, hdamage i f s h.2⟩) hs h

/-! ## What a write of tables or of a patch can do -/

/-- The owner's act on an accepted write, or nothing where the write is refused (R170, R187). -/
inductive TableAct (s : State) : State → Prop
  | refused : TableAct s s
  | curve (l : List CurvePoint) : TableAct s (acceptCurve l s)
  | classes (l : List ClassEntry) : TableAct s (acceptClasses l s)
  | route (l : List Route) : TableAct s (acceptRoute l s)
  | sets (i : Nat) (ws : List Words) : TableAct s (writeSets true i ws s)
  | numbers (id : TableId) (first k : Nat) (l : List Int) (hok : numsOk id l = true) : TableAct s (acceptNums id first k l s)

theorem accepted_acts {ok : Bool} {x : Status} {s t : State} (h : ok = true → TableAct s t) :
    TableAct s (accepted ok x s t).state := by
  unfold accepted
  split
  · exact h ‹_›
  · exact .refused

theorem writeEntries_acts (id : TableId) (first : Nat) (entries : List (List Byte)) (s : State) :
    TableAct s (writeEntries id first entries s).state := by
  cases id <;> dsimp only [writeEntries]
  case speedCurve =>
    split
    · exact .refused
    · exact accepted_acts fun _ => .curve _
  case classes =>
    split
    · exact .refused
    · exact .classes _
  case route =>
    split
    · exact .refused
    · exact .route _
  case fixedSets | bassSets | trebleSets => exact accepted_acts fun _ => .sets _ _
  all_goals exact accepted_acts fun hok => .numbers _ _ _ _ hok

theorem handleTableWrite_acts (p : List Byte) (s : State) : TableAct s (handleTableWrite p s).state := by
  unfold handleTableWrite
  split
  · split
    · exact .refused
    · split
      · exact .refused
      · split
        · exact .refused
        · exact writeEntries_acts _ _ _ s
  · exact .refused

/-- PATCH_PUT is a write of one entry, and changes the patch list beside it (R170). -/
theorem handlePatchPut_acts (p : List Byte) (s : State) :
    ∃ u, TableAct s u ∧ Only [.patches] u (handlePatchPut p s).state := by
  unfold handlePatchPut
  split
  · split
    · exact ⟨s, .refused, .refl _ s⟩
    · dsimp only
      split
      · exact ⟨s, .refused, .refl _ s⟩
      · split
        · exact ⟨s, .refused, .refl _ s⟩
        · split
          · exact ⟨s, .refused, .refl _ s⟩
          · rename_i hok
            rw [Bool.not_eq_true', Bool.not_eq_false, patchOk, Bool.and_eq_true] at hok
            exact ⟨_, .numbers _ _ _ _ hok.2, withPatches_only _ _⟩
  · exact ⟨s, .refused, .refl _ s⟩

/-! ## What keeps the faders -/

/-- Every fader after the event follows its reasons if every fader before it does. -/
def KeepsFaders (s t : State) : Prop := ∀ p ∈ t.output, FadersOk s → FaderOk p

theorem FadersOk.keep {s t : State} (hs : FadersOk s) (h : KeepsFaders s t) : FadersOk t := fun p hp => h p hp hs

theorem KeepsFaders.refl (s : State) : KeepsFaders s s := fun p hp hs => hs p hp

theorem KeepsFaders.trans {s t u : State} (h : KeepsFaders s t) (h' : KeepsFaders t u) : KeepsFaders s u :=
  fun p hp hs => h' p hp (hs.keep h)

theorem KeepsFaders.ite {s t u : State} {p : Prop} [Decidable p] (h : p → KeepsFaders s t) (h' : ¬p → KeepsFaders s u) :
    KeepsFaders s (if p then t else u) := by
  split
  · exact h ‹_›
  · exact h' ‹_›

/-- Every record after the event is sound if one record before it was. -/
theorem KeepsFaders.of_records {s t : State} (h : ∀ p ∈ t.output, ∃ o ∈ s.output, FaderOk o → FaderOk p) :
    KeepsFaders s t := fun p hp hs => by
  obtain ⟨o, ho, hop⟩ := h p hp
  exact hop (hs o ho)

theorem KeepsFaders.of_output {s t : State} (h : t.output = s.output) : KeepsFaders s t :=
  .of_records fun p hp => ⟨p, h ▸ hp, id⟩

theorem KeepsFaders.of_only {l : List Block} {s t : State} (h : Only l s t) (ho : Block.output ∉ l := by decide) :
    KeepsFaders s t := .of_output (h.output ho)

theorem mapOut_keepsFaders {f : OutChan → OutChan} (hf : ∀ o, FaderOk o → FaderOk (f o)) (s : State) :
    KeepsFaders s (s.mapOut f) := .of_records fun p hp => by
  obtain ⟨o, ho, rfl⟩ := List.mem_map.mp hp
  exact ⟨o, ho, hf o⟩

theorem zipOut_keepsFaders {f : OutChan × Nat → OutChan} (hf : ∀ o c, FaderOk o → FaderOk (f (o, c))) (s : State) :
    KeepsFaders s (s.withOutput (s.output.zipIdx.map f)) := .of_records fun p hp => by
  obtain ⟨⟨o, c⟩, ho, rfl⟩ := List.mem_map.mp hp
  exact ⟨o, List.fst_mem_of_mem_zipIdx ho, hf o c⟩

theorem modifyOut_keepsFaders {f : OutChan → OutChan} (hf : ∀ o, FaderOk o → FaderOk (f o)) (c : Nat) (s : State) :
    KeepsFaders s (s.modifyOut c f) := .of_records fun p hp => by
  obtain ⟨i, hi, rfl⟩ := List.mem_iff_getElem.mp hp
  have hlt : i < s.output.length := by simpa [State.modifyOut] using hi
  refine ⟨s.output[i], List.getElem_mem hlt, fun h => ?_⟩
  simp only [State.modifyOut, State.withOutput_output, List.getElem_modify]
  split
  · exact hf _ h
  · exact h

/-! The integrity checker: FAULT is added and removed (R151, R153). -/

theorem clearFault_keepsFaders (i : Nat) (s : State) : KeepsFaders s (clearFault i s) :=
  .ite (fun _ => modifyOut_keepsFaders (fun _ h => removeReason_faderOk _ h) _ s) fun _ => .refl s

theorem recordTransition_keepsFaders (i : Nat) (x : SetState) (r : Bool) (s : State) :
    KeepsFaders s (recordTransition i x r s) := .of_only (recordTransition_only i x r s)

theorem examine_keepsFaders (i : Nat) (s : State) : KeepsFaders s (examine i s) := by
  have hfault : ∀ o, FaderOk o → FaderOk (o.addReason .fault).show := fun o h =>
    (addReason_faderOk .fault h.sound).congr rfl rfl
  refine .ite (fun _ => ?_) fun _ => .refl s
  refine KeepsFaders.trans ?_ (recordTransition_keepsFaders _ _ _ _)
  exact .ite (fun _ => modifyOut_keepsFaders hfault _ _) fun _ => .of_output rfl

theorem scan_keepsFaders (s : State) : KeepsFaders s (scan s) := (examine_keepsFaders _ s).trans (.of_output rfl)

theorem eqBoundary_keepsFaders (s : State) : KeepsFaders s (eqBoundary s) := by
  have hchecks : ∀ (l : List Nat) (s : State), KeepsFaders s (l.foldl (fun s i => examine i s) s) := by
    intro l
    induction l with
    | nil => exact .refl
    | cons i l ih => exact fun s => (examine_keepsFaders i s).trans (ih _)
  exact hchecks _ _

theorem readOutcome_keepsFaders (r : ReadRec) (ok : Bool) (s : State) : KeepsFaders s (readOutcome r ok s) := by
  refine .ite (fun _ => .refl s) fun _ => ?_
  split
  · exact .of_only (restoreFails_only _ s)
  · refine .ite (fun _ => ?_) fun _ => .of_only ((modifySet_only _ _ s).comp (restoreFails_only _ _) (n := [.integrity, .link]))
    refine KeepsFaders.trans ?_ (recordTransition_keepsFaders _ _ _ _)
    exact clearFault_keepsFaders _ _

theorem completeRead_keepsFaders (ok : Bool) (s : State) : KeepsFaders s (completeRead ok s) := by
  unfold completeRead
  split
  · exact .refl s
  · refine KeepsFaders.trans ?_ (.of_only (grantNext_only _))
    exact readOutcome_keepsFaders _ _ _

theorem leaveForGood_keepsFaders (was : SetState) (i : Nat) (s : State) : KeepsFaders s (leaveForGood was i s) := by
  have hclear : ∀ u, KeepsFaders u (recordTransition i .good false (clearFault i u)) := fun u =>
    (clearFault_keepsFaders i u).trans (recordTransition_keepsFaders _ _ _ _)
  cases was with
  | good => exact .refl s
  | suspect => exact hclear _
  | restoring => exact (KeepsFaders.of_only (discardRead_only i s)).trans (hclear _)
  | failed => exact hclear s

theorem writeSets_keepsFaders (byHost : Bool) : ∀ (i : Nat) (l : List Words) (s : State),
    KeepsFaders s (writeSets byHost i l s)
  | _, [], s => .refl s
  | i, _ :: rest, s =>
    ((KeepsFaders.of_only (modifySet_only i _ s)).trans (leaveForGood_keepsFaders _ _ _)).trans
      (writeSets_keepsFaders byHost (i + 1) rest _)

/-! The boundaries and the sample period (R20, R63, R64, R67). -/

theorem rampUnitBoundary_keepsFaders {s : State} (hslew : 0 ≤ s.tables.global .progSlew) :
    KeepsFaders s (rampUnitBoundary s) := by
  have hmove : ∀ u : State, u.tables = s.tables → KeepsFaders u (moveAll u) := fun u hu =>
    mapOut_keepsFaders (fun o h => openFader_faderOk (by rw [hu]; exact hslew) h) _
  have hadvance : KeepsFaders s (advanceDivider (clampApplied s)) := .ite (fun _ => hmove _ rfl) fun _ => .of_output rfl
  exact (hadvance.trans (.of_only (checkDrain_only _ _))).trans (.of_only (checkDrain_only _ _))

theorem applyDelays_keepsFaders (s : State) : KeepsFaders s (applyDelays s) :=
  mapOut_keepsFaders (fun _ h => delayGone_faderOk h) _

theorem outputBoundary_keepsFaders {s : State} (hslew : 0 ≤ s.tables.global .fastSlew) :
    KeepsFaders s (outputBoundary s) := by
  have hclosed : KeepsFaders s (s.mapOut (closeFader (s.tables.global .fastSlew))) :=
    mapOut_keepsFaders (fun _ h => closeFader_faderOk hslew h) s
  have hpolarity : ∀ u, KeepsFaders u (takePolarity u) := fun u =>
    zipOut_keepsFaders (fun _ _ h => by exact h) u
  have hclips : ∀ u, KeepsFaders u (countClips u) := fun u =>
    .ite (fun _ => (mapOut_keepsFaders (fun o h => by unfold countClip; split <;> exact h) u).trans (.of_only (post_only _ _)))
      fun _ => .refl u
  have hshown : ∀ u : State, KeepsFaders u (u.mapOut OutChan.show) := mapOut_keepsFaders fun _ h => by exact h
  exact (((hclosed.trans (hpolarity _)).trans (hclips _)).trans (applyDelays_keepsFaders _)).trans (hshown _)

theorem samplePeriod_keepsFaders (p : Ports) (s : State) : KeepsFaders s (samplePeriod p s) :=
  zipOut_keepsFaders (fun _ _ h => by exact h) s

/-! The supply monitor, the counters, the transmitter. -/

theorem takeReading_keepsFaders (u : Nat) (s : State) : KeepsFaders s (takeReading u s) := by
  have hadd : ∀ o, FaderOk o → FaderOk (o.addReason .supply) := fun _ h => addReason_faderOk _ h.sound
  have hreasons : KeepsFaders s (supplyReasons s.supply.state (s.supply.take s.tables u).state
      (s.withSupply (s.supply.take s.tables u))) :=
    .ite (fun _ => .of_output rfl) fun _ =>
      .ite (fun _ => mapOut_keepsFaders (fun _ h => by exact (removeReason_faderOk .supply h).congr rfl rfl) _) fun _ =>
        .ite (fun _ => mapOut_keepsFaders (fun o h => by exact (hadd o h).congr rfl rfl) _) fun _ =>
          mapOut_keepsFaders hadd _
  exact .ite (fun _ => hreasons) fun _ => hreasons.trans (.of_only (post_only _ _))

theorem handleCounters_keepsFaders (p : List Byte) (s : State) : KeepsFaders s (handleCounters p s).state := by
  unfold handleCounters
  split
  · exact .ite (fun _ => mapOut_keepsFaders (fun _ h => by exact h) _) fun _ => .refl s
  · exact .refl s

theorem beginNotice_keepsFaders (s : State) : KeepsFaders s (beginNotice s) := by
  unfold beginNotice
  split
  · exact .refl s
  · exact .ite (fun _ => mapOut_keepsFaders (fun _ h => by exact h) _) fun _ => .of_output rfl

theorem beginNext_keepsFaders (s : State) : KeepsFaders s (beginNext s) :=
  .ite (fun _ => .of_only (beginReply_only s)) fun _ => beginNotice_keepsFaders s

theorem pump_keepsFaders (s : State) : KeepsFaders s (pump s) :=
  .ite (fun _ => .refl s) fun _ => .ite
    (fun _ => .ite (fun _ => beginNotice_keepsFaders _) fun _ =>
      .of_only ((withDraws_only s _).comp (beginReply_only _) (n := [.draws, .link])))
    fun _ => beginNext_keepsFaders s

theorem frameSent_keepsFaders (s : State) : KeepsFaders s (frameSent s) := by
  unfold frameSent
  split
  · exact .refl s
  · exact .ite (fun _ => .of_only (enterReset_only _ s)) fun _ => beginNext_keepsFaders _

/-! Writes of tables, and LOAD (R65, R70, R173, R174). -/

theorem acceptNums_keepsFaders (id : TableId) (first k : Nat) (l : List Int) (s : State) :
    KeepsFaders s (acceptNums id first k l s) := by
  cases id
  case globals =>
    obtain ⟨honly, -⟩ := acceptNums_globals_acts first k l s
    exact .of_only honly
  case delay =>
    refine zipOut_keepsFaders (fun o c h => ?_) _
    dsimp only
    split
    · exact writeDelay_faderOk _ _ h
    · exact h
  all_goals exact .of_output rfl

theorem acceptRoute_keepsFaders (l : List Route) (s : State) : KeepsFaders s (acceptRoute l s) :=
  zipOut_keepsFaders (fun _ _ h => writeEnabled_faderOk _ _ h) _

theorem TableAct.keepsFaders {s t : State} (h : TableAct s t) : KeepsFaders s t := by
  cases h with
  | refused => exact .refl s
  | curve l => exact .of_only (acceptCurve_only l s)
  | classes l => exact .of_only (acceptClasses_only l s)
  | route l => exact acceptRoute_keepsFaders l s
  | sets i ws => exact writeSets_keepsFaders true i ws s
  | numbers id first k l _ => exact acceptNums_keepsFaders id first k l s

theorem handlePatchPut_keepsFaders (p : List Byte) (s : State) : KeepsFaders s (handlePatchPut p s).state := by
  obtain ⟨u, hu, honly⟩ := handlePatchPut_acts p s
  exact hu.keepsFaders.trans (.of_only honly)

theorem placeAllNums_keepsFaders (f : FactoryImage) : ∀ (l : List TableId) (s : State),
    KeepsFaders s (l.foldl (placeNums f) s)
  | [], s => .refl s
  | _ :: l, s => (acceptNums_keepsFaders _ _ _ _ s).trans (placeAllNums_keepsFaders f l _)

theorem placeFactory_keepsFaders (f : FactoryImage) (s : State) : KeepsFaders s (placeFactory f s) := by
  refine KeepsFaders.trans ?_ (writeSets_keepsFaders _ _ _ _)
  refine KeepsFaders.trans ?_ (placeAllNums_keepsFaders f _ _)
  refine KeepsFaders.trans ?_ (acceptRoute_keepsFaders _ _)
  refine KeepsFaders.trans ?_ (.of_only (acceptClasses_only _ _))
  exact (placeAllNums_keepsFaders f _ s).trans (.of_only (acceptCurve_only _ _))

theorem finishLoad_keepsFaders (s : State) : KeepsFaders s (finishLoad s) := by
  have hpost : ∀ u : State, KeepsFaders u (u.post .ready) := fun u => .of_only (post_only _ u)
  have hended : ∀ u : State, KeepsFaders u (endLoading u) := fun u => by
    have hrunning : KeepsFaders u ((u.withStartup { u.startup with state := .running }).mapOut
        (OutChan.removeReason .startup)) := mapOut_keepsFaders (fun _ h => removeReason_faderOk _ h) _
    exact .ite (fun _ => hrunning.trans (hpost _)) fun _ => hpost _
  exact ((KeepsFaders.of_only (placeScene_only s)).trans (hended _)).trans (.of_only (grantNext_only _))

theorem completeLoad_keepsFaders (s : State) : KeepsFaders s (completeLoad s) := by
  by_cases hload : s.store.running = some .load
  · by_cases hv : s.store.factoryState = .valid
    · have hplaced : KeepsFaders s (loadPlaced s) := placeFactory_keepsFaders s.store.factory (loadFreed s)
      rw [completeLoad_valid hload hv]
      exact (hplaced.trans (.of_only (loadPatched_only s))).trans (finishLoad_keepsFaders _)
    · rw [completeLoad_invalid hload hv]
      exact (KeepsFaders.of_only (loadUnplaced_only s)).trans (finishLoad_keepsFaders _)
  · rw [completeLoad, if_neg hload]
    exact .refl s

/-! ## Every event -/

theorem fastSlew_nonneg {s : State} (ht : TablesOk s) : 0 ≤ s.tables.global .fastSlew := by
  have hmeet : GlobalsMeet s.tables.globals := ht.numbersMeet (id := .globals) (by decide)
  obtain ⟨⟨-, -, -, -, hfast, -⟩, -⟩ := hmeet
  exact le_trans (by decide) hfast.1

theorem effect_keepsFaders (c : Instr) {s : State} (ht : TablesOk s) : KeepsFaders s (effect c s) := by
  have request : ∀ {kind tag lengthOk ready} {handle : State → Handled},
      (∀ s, KeepsFaders s (handle s).state) → KeepsFaders s (taken kind tag lengthOk ready handle s) :=
    fun {kind tag lengthOk ready} _ hh p hp hs =>
      taken_keeps (P := FadersOk) (fun _ _ h => h) (fun u hu => hu.keep (hh u)) hs kind tag lengthOk ready p hp
  have hreading : ∀ u, KeepsFaders s (takeReading u s) := fun u => takeReading_keepsFaders u s
  have hramp := rampUnitBoundary_keepsFaders (slews_nonneg ht).1
  have hf := effect_only c s
  cases c
  all_goals dsimp only [touches] at hf
  case tableWrite p => exact request fun u => (handleTableWrite_acts p u).keepsFaders
  case patchPut p => exact request (handlePatchPut_keepsFaders p)
  case counters p => exact request (handleCounters_keepsFaders p)
  case rampBoundary => exact hramp
  case rampStep => exact .ite (fun _ => hramp) fun _ => .refl s
  case outputStageStep => exact outputBoundary_keepsFaders (fastSlew_nonneg ht)
  case applyDelay => exact applyDelays_keepsFaders s
  case eqBoundary => exact eqBoundary_keepsFaders s
  case scannerCheck => exact scan_keepsFaders s
  case readSetComplete ok => exact completeRead_keepsFaders ok s
  case supplyReading => exact hreading _
  case runComplete => exact .ite (fun _ => hreading _) fun _ => .refl s
  case settleComplete => exact .ite (fun _ => hreading _) fun _ => .refl s
  case loadComplete => exact completeLoad_keepsFaders s
  case samplePeriod p => exact samplePeriod_keepsFaders p s
  all_goals exact .of_only hf

/-- Settles O7, together with O6's invariant, which bounds the slews of the closing and opening steps. -/
theorem fadersFollowReasons : Obligations.FadersFollowReasons := by
  intro s t ht hs h
  exact step_keeps_beside_tables (P := FadersOk) (fun _ _ h => h) (fun _ _ h => h) (fun _ _ h => h)
    (fun c _ ht hs => hs.keep (effect_keepsFaders c ht)) (fun s hs => hs.keep (pump_keepsFaders s))
    (fun s hs => hs.keep (frameSent_keepsFaders s)) (fun e s hs => hs.keep (.of_only (enterReset_only e s)))
    (fun _ _ h => h) (fun _ _ _ => reset_fadersOk) (fun _ _ _ h => h) ht hs h

end Sys2Proof
end

section
/-! SUPPORT. The ramp step of a path, the ramp unit's boundary, and the two statements on them. -/

set_option Elab.async false

namespace Sys2Proof

open Sys2Proof.Machine

/-! ## One path (R54, R55) -/

/-- A ramp step toward a target at or above the gain ends between the two. -/
theorem rampPath_rises {a target slew : Int} (hslew : 0 ≤ slew) (h : a ≤ target) :
    a ≤ rampPath a target slew ∧ rampPath a target slew ≤ target := by
  unfold rampPath
  split_ifs <;> omega

/-- A ramp step toward a target at or below the gain ends between the two. -/
theorem rampPath_falls {a target slew : Int} (hslew : 0 ≤ slew) (h : target ≤ a) :
    target ≤ rampPath a target slew ∧ rampPath a target slew ≤ a := by
  unfold rampPath
  split_ifs <;> omega

/-- A ramp step leaves less of the way, where any is left. -/
theorem rampPath_nears {target slew : Int} (hslew : 1 ≤ slew) (a : Int) :
    (target - rampPath a target slew).natAbs ≤ (target - a).natAbs - 1 := by
  unfold rampPath
  split_ifs <;> omega

/-- Ramp steps in a row toward a fixed target. -/
def rampSteps (target slew : Int) (n : Nat) (a : Int) : Int := (fun g => rampPath g target slew)^[n] a

section
variable {target slew : Int}

theorem rampSteps_succ (n : Nat) (a : Int) :
    rampSteps target slew (n + 1) a = rampPath (rampSteps target slew n a) target slew :=
  Function.iterate_succ_apply' _ _ _

theorem rampSteps_rise (hslew : 0 ≤ slew) {a : Int} (h : a ≤ target) (n : Nat) :
    a ≤ rampSteps target slew n a ∧ rampSteps target slew n a ≤ target := by
  induction n with
  | zero => exact ⟨le_rfl, h⟩
  | succ n ih =>
    rw [rampSteps_succ]
    have hstep := rampPath_rises hslew ih.2
    exact ⟨ih.1.trans hstep.1, hstep.2⟩

theorem rampSteps_fall (hslew : 0 ≤ slew) {a : Int} (h : target ≤ a) (n : Nat) :
    target ≤ rampSteps target slew n a ∧ rampSteps target slew n a ≤ a := by
  induction n with
  | zero => exact ⟨h, le_rfl⟩
  | succ n ih =>
    rw [rampSteps_succ]
    have hstep := rampPath_falls hslew ih.1
    exact ⟨hstep.1, hstep.2.trans ih.2⟩

/-- After `n` steps at least `n` qdB of the way are gone, or all of it. -/
theorem rampSteps_near (hslew : 1 ≤ slew) (a : Int) (n : Nat) :
    (target - rampSteps target slew n a).natAbs ≤ (target - a).natAbs - n := by
  induction n with
  | zero => exact le_rfl
  | succ n ih =>
    have hnears := rampPath_nears (target := target) hslew (rampSteps target slew n a)
    rw [rampSteps_succ]
    omega

end

/-- Settles O22: one step by cases of R54 and R55, and by induction any number of them. -/
theorem rampReachesTarget : Obligations.RampReachesTarget := by
  intro a target slew hslew _ _
  have hslew' : 0 ≤ slew := by omega
  refine ⟨fun h => if_pos h, fun h => ?_, fun n => ⟨fun h => rampSteps_rise hslew' h n, fun h => ?_⟩, ?_⟩
  · rw [rampPath, if_neg (by omega), if_pos h]
  · exact rampSteps_fall hslew' h n
  · have hnear := rampSteps_near (target := target) hslew a (target - a).natAbs
    change rampSteps target slew (target - a).natAbs a = target
    omega

/-! ## The applied gains of a channel (R53, R56) -/

/-- The applied gains of a channel once a boundary has clamped them and stepped them where a step is due. -/
def boundaryGains (s : State) (c : Nat) : PathGains :=
  let clamped := clampPaths (s.planner.readCeiling.getD c 0) (s.ramp.applied.getD c PathGains.mute)
  if stepDue s then
    rampPaths (s.tables.global .progSlew) (s.tables.global .annSlew) clamped (s.planner.targets.getD c PathGains.mute)
  else clamped

theorem clampApplied_applied {s : State} {c : Nat} (hc : c < 24) :
    (clampApplied s).ramp.applied.getD c PathGains.mute =
      clampPaths (s.planner.readCeiling.getD c 0) (s.ramp.applied.getD c PathGains.mute) :=
  getD_range_map hc (fun c => clampPaths (s.planner.readCeiling.getD c 0) (s.ramp.applied.getD c PathGains.mute)) _

theorem stepDue_clampApplied (s : State) : stepDue (clampApplied s) = stepDue s := rfl

theorem advanceDivider_applied {s : State} {c : Nat} (hc : c < 24) :
    (advanceDivider (clampApplied s)).ramp.applied.getD c PathGains.mute = boundaryGains s c := by
  unfold advanceDivider boundaryGains
  rw [stepDue_clampApplied]
  split
  · rw [← clampApplied_applied hc]
    exact getD_range_map hc (fun c => rampPaths (s.tables.global .progSlew) (s.tables.global .annSlew)
      ((clampApplied s).ramp.applied.getD c PathGains.mute) (s.planner.targets.getD c PathGains.mute)) _
  · exact clampApplied_applied hc

/-- A path that is clamped, and stepped toward a target under its ceiling, ends under that ceiling. -/
theorem rampPath_under {ceiling a target slew : Int} (hslew : 0 ≤ slew) (ha : -480 ≤ a) (hceiling : -480 ≤ ceiling)
    (ht : -480 ≤ target ∧ target ≤ ceiling) :
    -480 ≤ rampPath (min ceiling a) target slew ∧ rampPath (min ceiling a) target slew ≤ ceiling := by
  have hclamped : -480 ≤ min ceiling a := le_min hceiling ha
  obtain h | h := le_total (min ceiling a) target
  · have hstep := rampPath_rises hslew h
    omega
  · have hstep := rampPath_falls hslew h
    omega

theorem boundaryGains_within {s : State} (ht : TablesOk s) (hs : GainsOk s) {c : Nat} (hc : c < 24) :
    PathGains.within (-480) (s.planner.readCeiling.getD c 0) (boundaryGains s c) := by
  obtain ⟨hceiling, ⟨hprog, hslot1, hslot2⟩, haprog, haslot1, haslot2⟩ := hs c hc
  obtain ⟨hprogSlew, hannSlew⟩ := slews_nonneg ht
  have hfloor : -480 ≤ s.planner.readCeiling.getD c 0 := by omega
  unfold boundaryGains
  dsimp only
  split
  · exact ⟨rampPath_under hprogSlew haprog.1 hfloor hprog, rampPath_under hannSlew haslot1.1 hfloor hslot1,
      rampPath_under hannSlew haslot2.1 hfloor hslot2⟩
  · simp only [PathGains.within, clampPaths]
    omega

/-! ## The drain checks (R57) -/

theorem slot_get_put_same {α : Type} (p : PerSlot α) (k : Slot) (v : α) : (p.put k v).get k = v := by cases k <;> rfl

theorem slot_get_put_other {α : Type} (p : PerSlot α) {j k : Slot} (h : j ≠ k) (v : α) : (p.put k v).get j = p.get j := by
  cases j with
  | slot1 => cases k with
    | slot1 => exact absurd rfl h
    | slot2 => rfl
  | slot2 => cases k with
    | slot1 => rfl
    | slot2 => exact absurd rfl h

theorem drained_iff (s : State) (k : Slot) :
    drained s k = true ↔ ∀ c, c < 24 → (s.ramp.applied.getD c PathGains.mute).slot k = -480 := by
  simp [drained]

theorem checkDrain_divider (k : Slot) (s : State) : (checkDrain k s).ramp.divider = s.ramp.divider := by
  unfold checkDrain
  split <;> rfl

theorem checkDrain_handed (j k : Slot) (s : State) :
    (checkDrain k s).ramp.handed.get j = true ↔
      s.ramp.handed.get j = true ∨ j = k ∧ s.arbiter.slots.get k = .draining ∧ drained s k = true := by
  unfold checkDrain
  by_cases hdrain : s.arbiter.slots.get k = .draining ∧ drained s k = true
  · rw [if_pos hdrain]
    by_cases hjk : j = k
    · subst hjk
      simp [slot_get_put_same, hdrain]
    · simp [slot_get_put_other _ hjk, hjk]
  · simp [hdrain]

/-! ## The boundary (R52, R53, R57, R64) -/

theorem rampUnitBoundary_applied {s : State} {c : Nat} (hc : c < 24) :
    (rampUnitBoundary s).ramp.applied.getD c PathGains.mute = boundaryGains s c := by
  have hdrains := (checkDrain_keepsGains .slot1 (advanceDivider (clampApplied s))).trans (checkDrain_keepsGains .slot2 _)
  rw [rampUnitBoundary, hdrains.2, advanceDivider_applied hc]

theorem rampUnitBoundary_divider (s : State) :
    (rampUnitBoundary s).ramp.divider = if stepDue s then 0 else s.ramp.divider + 1 := by
  rw [rampUnitBoundary, checkDrain_divider, checkDrain_divider, advanceDivider, stepDue_clampApplied]
  split <;> rfl

theorem rampUnitBoundary_handed (s : State) (k : Slot) :
    (rampUnitBoundary s).ramp.handed.get k = true ↔ s.ramp.handed.get k = true ∨
      s.arbiter.slots.get k = .draining ∧
        ∀ c, c < 24 → ((rampUnitBoundary s).ramp.applied.getD c PathGains.mute).slot k = -480 := by
  have hadvanced : (advanceDivider (clampApplied s)).ramp.handed = s.ramp.handed := by
    unfold advanceDivider
    split <;> rfl
  have hgains : (rampUnitBoundary s).ramp.applied = (advanceDivider (clampApplied s)).ramp.applied :=
    ((checkDrain_keepsGains .slot1 _).trans (checkDrain_keepsGains .slot2 _)).2
  have hdrained : ∀ u : State, drained (checkDrain .slot1 u) = drained u := fun u => by
    unfold drained
    rw [(checkDrain_keepsGains .slot1 u).2]
  rw [hgains, ← drained_iff, rampUnitBoundary, checkDrain_handed, checkDrain_handed, hadvanced, hdrained,
    (checkDrain_only _ _).arbiter, (advanceDivider_only _).arbiter, (clampApplied_only s).arbiter]
  cases k <;> simp

theorem rampUnitBoundary_output (s : State) :
    (rampUnitBoundary s).output =
      if stepDue s then s.output.map (openFader (s.tables.global .progSlew)) else s.output := by
  rw [rampUnitBoundary, (checkDrain_only _ _).output, (checkDrain_only _ _).output, advanceDivider, stepDue_clampApplied]
  split <;> rfl

/-- RAMP_STEP is the boundary's event where its step is due, and no event elsewhere (R52). -/
theorem exec_rampStep (s : State) :
    exec .rampStep s = event (fun s => if stepDue s then rampUnitBoundary s else s) s := rfl

/-- Settles O23: the event posts nothing, and its state is that of the ramp unit's boundary, part by part. -/
theorem rampBoundaryMovesGains : Obligations.RampBoundaryMovesGains := by
  intro s ha due
  have hdue : stepDue s = true ↔ due := decide_eq_true_iff
  have hquiet := event_quiet ha (rampUnitBoundary_only s).link
  refine ⟨rampUnitBoundary s, hquiet, rampUnitBoundary_only s, fun h => ?_, fun h => ?_, ?_, rampUnitBoundary_rampShape s,
    fun c hc => ?_, fun ht hs c hc => ?_, rampUnitBoundary_handed s, ?_⟩
  · rw [exec_rampStep, event_quiet ha (by rw [if_pos (hdue.mpr h)]; exact (rampUnitBoundary_only s).link), if_pos (hdue.mpr h)]
  · rw [exec_rampStep, event_quiet ha (by rw [if_neg (h ∘ hdue.mp)]), if_neg (h ∘ hdue.mp)]
  · rw [rampUnitBoundary_divider]
    exact if_congr hdue rfl rfl
  · dsimp only
    rw [rampUnitBoundary_applied hc]
    exact if_congr hdue rfl rfl
  · rw [rampUnitBoundary_applied hc]
    exact boundaryGains_within ht hs hc
  · rw [rampUnitBoundary_output]
    split
    · rename_i h
      refine List.map_congr_left fun o _ => ?_
      simp only [openFader, hdue.mp h, true_and]
      rfl
    · rename_i h
      have hnot : ¬due := h ∘ hdue.mpr
      simp only [hnot, false_and, if_false, List.map_id']

end Sys2Proof
end

section
/-! SUPPORT. Rank order and arbitration: what a settled arbiter does when a slot falls free, and the statement on drains. -/

set_option Elab.async false

namespace Sys2Proof

open Sys2Proof.Machine

/-! ## One value per class and per slot -/

section
variable {α : Type}

theorem class_get_put_same (p : PerClass α) (k : AnnClass) (v : α) : (p.put k v).get k = v := by cases k <;> rfl

theorem class_get_put_other (p : PerClass α) {j k : AnnClass} (h : j ≠ k) (v : α) : (p.put k v).get j = p.get j := by
  cases k <;> cases j <;> simp [PerClass.put, PerClass.get] at h ⊢

theorem slot_put_put (p : PerSlot α) (k : Slot) (v w : α) : (p.put k v).put k w = p.put k w := by cases k <;> rfl

end

/-! ## Rank (R109, R114) -/

section
variable (t : Tables)

/-- One class ranks above another: a higher level, or an equal one and an earlier place. -/
def Outranks (a b : AnnClass) : Prop :=
  (t.classEntry b).level < (t.classEntry a).level ∨
    (t.classEntry a).level = (t.classEntry b).level ∧ a.code < b.code

theorem ranksAbove_iff (a b : AnnClass) : ranksAbove t a b = true ↔ Outranks t a b := by
  simp [ranksAbove, Outranks]

variable {t}

theorem Outranks.level_le {a b : AnnClass} (h : Outranks t a b) : (t.classEntry b).level ≤ (t.classEntry a).level := by
  obtain h | h := h
  · exact h.le
  · exact h.1.ge

theorem Outranks.trans {a b c : AnnClass} (h : Outranks t a b) (h' : Outranks t b c) : Outranks t a c := by
  unfold Outranks at *
  omega

theorem Outranks.asymm {a b : AnnClass} (h : Outranks t a b) : ¬Outranks t b a := by
  unfold Outranks at *
  omega

theorem ofCode_code (k : AnnClass) : AnnClass.ofCode k.code = some k := by cases k <;> rfl

theorem code_injective {a b : AnnClass} (h : a.code = b.code) : a = b := by
  have hsome : some a = some b := by rw [← ofCode_code, h, ofCode_code]
  exact Option.some.inj hsome

/-- Of two classes one outranks the other. -/
theorem outranks_total {a b : AnnClass} (h : a ≠ b) : Outranks t a b ∨ Outranks t b a := by
  have hcode : a.code ≠ b.code := h ∘ code_injective
  unfold Outranks
  omega

/-! The rank order: every class once, the higher before the lower. -/

theorem insertRanked_perm (k : AnnClass) : ∀ l, (insertRanked t k l).Perm (k :: l)
  | [] => .refl _
  | x :: l => by
    unfold insertRanked
    split
    · exact .refl _
    · exact ((insertRanked_perm k l).cons x).trans (.swap k x l)

theorem insertRanked_sorted {k : AnnClass} : ∀ {l : List AnnClass}, k ∉ l → l.Pairwise (Outranks t) →
    (insertRanked t k l).Pairwise (Outranks t)
  | [], _, _ => List.pairwise_singleton _ _
  | x :: l, hk, hl => by
    obtain ⟨hx, hl'⟩ := List.pairwise_cons.mp hl
    unfold insertRanked
    split
    · rename_i habove
      have hkx := (ranksAbove_iff t k x).mp habove
      exact List.pairwise_cons.mpr ⟨fun y hy => (List.mem_cons.mp hy).elim (fun e => e ▸ hkx) fun hy => hkx.trans (hx y hy), hl⟩
    · rename_i habove
      obtain ⟨hne, hnotin⟩ := not_or.mp (mt List.mem_cons.mpr hk)
      have hxk : Outranks t x k := (outranks_total hne).resolve_left (habove ∘ (ranksAbove_iff t k x).mpr)
      refine List.pairwise_cons.mpr ⟨fun y hy => ?_, insertRanked_sorted hnotin hl'⟩
      exact (List.mem_cons.mp ((insertRanked_perm k l).mem_iff.mp hy)).elim (fun e => e ▸ hxk) (hx y)

/-- Classes inserted one after the other, none twice, stand in rank order. -/
theorem foldl_insertRanked : ∀ (ks l : List AnnClass), (ks ++ l).Nodup → l.Pairwise (Outranks t) →
    (ks.foldl (fun l k => insertRanked t k l) l).Pairwise (Outranks t) ∧
      (ks.foldl (fun l k => insertRanked t k l) l).Perm (ks ++ l)
  | [], l, _, hl => ⟨hl, .refl l⟩
  | x :: ks, l, hnodup, hl => by
    have hmoved : (ks ++ insertRanked t x l).Perm (x :: ks ++ l) :=
      ((insertRanked_perm x l).append_left ks).trans List.perm_middle
    have hx : x ∉ l := fun h => (List.nodup_cons.mp hnodup).1 (List.mem_append_right _ h)
    obtain ⟨hsorted, hperm⟩ := foldl_insertRanked ks _ (hmoved.nodup_iff.mpr hnodup) (insertRanked_sorted hx hl)
    exact ⟨hsorted, hperm.trans hmoved⟩

theorem rankOrder_sorted (t : Tables) : (rankOrder t).Pairwise (Outranks t) :=
  (foldl_insertRanked AnnClass.all [] (by decide) .nil).1

theorem mem_rankOrder (t : Tables) (k : AnnClass) : k ∈ rankOrder t :=
  (foldl_insertRanked AnnClass.all [] (by decide) .nil).2.mem_iff.mpr (by simpa using mem_annClass_all k)

end

/-! ## PENDING and ACTIVE classes in rank order (R120, R121) -/

theorem isPending_iff (a : Arbiter) (k : AnnClass) : a.isPending k = true ↔ (a.classes.get k).state = .pending := by
  simp [Arbiter.isPending]

theorem slotOf_eq_some_iff (a : Arbiter) (k : AnnClass) (slot : Slot) :
    a.slotOf k = some slot ↔ (a.classes.get k).state = .active slot := by
  unfold Arbiter.slotOf
  split
  · rename_i h
    rw [h, Option.some_inj, ClassState.active.injEq]
  · rename_i h
    simpa using h slot

section
variable {t : Tables} {a : Arbiter} {k : AnnClass} {slot : Slot}

theorem mem_pendingRanked : k ∈ pendingRanked t a ↔ (a.classes.get k).state = .pending := by
  rw [pendingRanked, List.mem_filter, isPending_iff]
  exact and_iff_right (mem_rankOrder t k)

theorem mem_activeRanked : k ∈ activeRanked t a ↔ (a.slotOf k).isSome = true := by
  rw [activeRanked, List.mem_filter]
  exact and_iff_right (mem_rankOrder t k)

/-- The PENDING class that outranks every other PENDING class stands first. -/
theorem pendingRanked_of_top (hk : (a.classes.get k).state = .pending)
    (htop : ∀ j, (a.classes.get j).state = .pending → j ≠ k → Outranks t k j) :
    ∃ rest, pendingRanked t a = k :: rest ∧ ∀ j ∈ rest, Outranks t k j := by
  have hsorted : (pendingRanked t a).Pairwise (Outranks t) := (rankOrder_sorted t).filter _
  cases hlist : pendingRanked t a with
  | nil => exact absurd (mem_pendingRanked.mpr hk) (hlist ▸ List.not_mem_nil)
  | cons x rest =>
    rw [hlist] at hsorted
    obtain ⟨hx, -⟩ := List.pairwise_cons.mp hsorted
    have hmem : k ∈ x :: rest := hlist ▸ mem_pendingRanked.mpr hk
    obtain rfl : k = x := by
      by_contra hne
      have hpending : (a.classes.get x).state = .pending := mem_pendingRanked.mp (hlist ▸ List.mem_cons_self)
      exact (htop x hpending (Ne.symm hne)).asymm (hx k ((List.mem_cons.mp hmem).resolve_left hne))
    exact ⟨rest, rfl, hx⟩

/-- Every ACTIVE class has at least the level of the lowest-ranked one. -/
theorem level_getLast_le {low j : AnnClass} (hlow : (activeRanked t a).getLast? = some low) (hj : (a.slotOf j).isSome = true) :
    (t.classEntry low).level ≤ (t.classEntry j).level := by
  have hsorted : (activeRanked t a).Pairwise (Outranks t) := (rankOrder_sorted t).filter _
  have hmem : j ∈ activeRanked t a := mem_activeRanked.mpr hj
  obtain ⟨front, hfront⟩ := List.getLast?_eq_some_iff.mp hlow
  rw [hfront] at hsorted hmem
  obtain hj | hj := List.mem_append.mp hmem
  · exact ((List.pairwise_append.mp hsorted).2.2 j hj low List.mem_cons_self).level_le
  · exact (List.mem_singleton.mp hj) ▸ le_rfl

/-! ## FREE slots, grants and victims (R120, R121) -/

theorem freeSlot_eq_none_iff : a.freeSlot = none ↔ ∀ slot, a.slots.get slot ≠ .free := by
  have hall : (∀ slot, a.slots.get slot ≠ .free) ↔ a.slots.slot1 ≠ .free ∧ a.slots.slot2 ≠ .free :=
    ⟨fun h => ⟨h .slot1, h .slot2⟩, fun h slot => by cases slot <;> [exact h.1; exact h.2]⟩
  rw [hall, Arbiter.freeSlot]
  split_ifs <;> simp [*]

theorem freeSlot_free (h : a.freeSlot = some slot) : a.slots.get slot = .free := by
  unfold Arbiter.freeSlot at h
  split at h
  · cases h
    assumption
  · split at h
    · cases h
      assumption
    · cases h

/-- The one slot that falls FREE is the first FREE slot. -/
theorem freeSlot_putSlot (h : a.freeSlot = none) (slot : Slot) : (a.putSlot slot .free).freeSlot = some slot := by
  have h1 : a.slots.slot1 ≠ .free := freeSlot_eq_none_iff.mp h .slot1
  cases slot with
  | slot1 => simp [Arbiter.freeSlot, Arbiter.putSlot, PerSlot.put]
  | slot2 => simp [Arbiter.freeSlot, Arbiter.putSlot, PerSlot.put, h1]

theorem grantOne_of_some {rest : List AnnClass} (hfree : a.freeSlot = some slot) (hp : pendingRanked t a = k :: rest) :
    grantOne t a = a.grant k slot := by
  simp [grantOne, hfree, hp]

theorem grantOne_of_none (h : a.freeSlot = none ∨ pendingRanked t a = []) : grantOne t a = a := by
  unfold grantOne
  split
  · rename_i hfree hp
    obtain h | h := h
    · cases h.symm.trans hfree
    · cases h.symm.trans hp
  · rfl

theorem grant_slot (a : Arbiter) (k : AnnClass) (slot x : Slot) :
    (a.grant k slot).slots.get x = if x = slot then .active k else a.slots.get x := by
  split
  · subst x
    exact slot_get_put_same _ _ _
  · exact slot_get_put_other _ ‹_› _

/-- A grant takes a FREE slot: the record of another stays. -/
theorem grantOne_slot {x : Slot} (h : a.slots.get x ≠ .free) : (grantOne t a).slots.get x = a.slots.get x := by
  cases hfree : a.freeSlot with
  | none => rw [grantOne_of_none (.inl hfree)]
  | some slot =>
    cases hp : pendingRanked t a with
    | nil => rw [grantOne_of_none (.inr hp)]
    | cons k rest =>
      have hne : x ≠ slot := fun e => h (e ▸ freeSlot_free hfree)
      rw [grantOne_of_some hfree hp, grant_slot, if_neg hne]

theorem grantAll_slot {x : Slot} (h : a.slots.get x ≠ .free) : (grantAll t a).slots.get x = a.slots.get x := by
  have hone := grantOne_slot (t := t) h
  rw [grantAll, grantOne_slot (by rwa [hone]), hone]

theorem preempt_slot (t : Tables) (a : Arbiter) (k : AnnClass) (slot x : Slot) :
    (preempt t a k slot).slots.get x = if x = slot then .draining else a.slots.get x := by
  split
  · subst x
    exact slot_get_put_same _ _ _
  · exact slot_get_put_other _ ‹_› _

theorem victim_slotOf (h : victim t a = some (k, slot)) : a.slotOf k = some slot := by
  unfold victim at h
  split at h
  · cases h
  · split at h
    · split at h
      · obtain ⟨x, hx, heq⟩ := Option.map_eq_some_iff.mp h
        cases heq
        exact hx
      · cases h
    · cases h

/-- With no slot FREE there is a victim exactly where the first PENDING class beyond the DRAINING slots has a higher level than
some ACTIVE class (R121). -/
theorem victim_eq_none_iff : victim t a = none ↔ (a.freeSlot = none →
    ∀ p, ((pendingRanked t a).drop a.draining).head? = some p → ∀ j, (a.slotOf j).isSome = true →
      (t.classEntry p).level ≤ (t.classEntry j).level) := by
  cases hfree : a.freeSlot with
  | some slot => simp [victim, hfree]
  | none =>
    rw [victim, hfree, if_neg (by decide)]
    cases hpending : (pendingRanked t a).drop a.draining with
    | nil => simp
    | cons k rest =>
      cases hlow : (activeRanked t a).getLast? with
      | none =>
        have hempty := List.getLast?_eq_none_iff.mp hlow
        refine iff_of_true rfl fun _ p _ j hj => ?_
        exact absurd (mem_activeRanked.mpr hj) (hempty ▸ List.not_mem_nil)
      | some low =>
        have hactive : (a.slotOf low).isSome = true := mem_activeRanked.mp (List.mem_of_getLast? hlow)
        dsimp only
        split
        · rename_i hhigher
          refine iff_of_false (fun h => ?_) fun h => absurd (h rfl k rfl low hactive) (not_le.mpr hhigher)
          rw [Option.map_eq_none_iff.mp h] at hactive
          cases hactive
        · rename_i hnot
          refine iff_of_true rfl fun _ p hp j hj => ?_
          obtain rfl : k = p := Option.some.inj hp
          exact (not_lt.mp hnot).trans (level_getLast_le hlow hj)

/-! ## Rounds of arbitration (R119) -/

/-- A slot that is not FREE after the grants keeps its record to the end, or drains. -/
theorem arbitrateRounds_slot {x : Slot} : ∀ (n : Nat) {a : Arbiter}, (grantAll t a).slots.get x ≠ .free →
    (arbitrateRounds t (n + 1) a).slots.get x = (grantAll t a).slots.get x ∨
      (arbitrateRounds t (n + 1) a).slots.get x = .draining := by
  intro n
  induction n with
  | zero =>
    intro a h
    rw [arbitrateRounds]
    split
    · exact .inl rfl
    · rw [arbitrateRounds, preempt_slot]
      split
      · exact .inr rfl
      · exact .inl rfl
  | succ n ih =>
    intro a h
    rw [arbitrateRounds]
    split
    · exact .inl rfl
    · rename_i low slot _
      have hpreempt := preempt_slot t (grantAll t a) low slot x
      have hnext : (preempt t (grantAll t a) low slot).slots.get x ≠ .free := by
        rw [hpreempt]
        split
        · exact nofun
        · exact h
      have hgrants := grantAll_slot (t := t) hnext
      obtain hend | hend := ih (a := preempt t (grantAll t a) low slot) (by rwa [hgrants])
      · rw [hend, hgrants, hpreempt]
        split
        · exact .inr rfl
        · exact .inl rfl
      · exact .inr hend

/-! ## A settled arbiter (R119) -/

/-- No class is PENDING while a slot is FREE: the grant would have changed the slot's record for good. -/
theorem no_free_or_no_pending_of_settled (h : arbitrated t a = a) : a.freeSlot = none ∨ pendingRanked t a = [] := by
  cases hfree : a.freeSlot with
  | none => exact .inl rfl
  | some slot =>
    cases hp : pendingRanked t a with
    | nil => exact .inr rfl
    | cons k rest =>
      have hgranted : (grantOne t a).slots.get slot = .active k := by
        rw [grantOne_of_some hfree hp, grant_slot, if_pos rfl]
      have hall : (grantAll t a).slots.get slot = .active k := by
        rw [grantAll, grantOne_slot (by rw [hgranted]; exact nofun), hgranted]
      have hend := arbitrateRounds_slot (t := t) 3 (a := a) (x := slot) (by rw [hall]; exact nofun)
      change (arbitrated t a).slots.get slot = _ ∨ (arbitrated t a).slots.get slot = _ at hend
      rw [h, freeSlot_free hfree, hall] at hend
      obtain hend | hend := hend <;> cases hend

theorem grantAll_of_settled (h : arbitrated t a = a) : grantAll t a = a := by
  have hone := grantOne_of_none (no_free_or_no_pending_of_settled h)
  rw [grantAll, hone, hone]

/-- There is no victim: its slot would be left DRAINING. -/
theorem victim_of_settled (hmatch : SlotsMatch a) (h : arbitrated t a = a) : victim t a = none := by
  cases hvictim : victim t a with
  | none => rfl
  | some lost =>
    obtain ⟨low, slot⟩ := lost
    have hactive : a.slots.get slot = .active low :=
      (hmatch low slot).mp ((slotOf_eq_some_iff a low slot).mp (victim_slotOf hvictim))
    have hround : arbitrated t a = arbitrateRounds t 3 (preempt t a low slot) := by
      rw [arbitrated, arbitrateRounds, grantAll_of_settled h, hvictim]
    have hdrains : (preempt t a low slot).slots.get slot = .draining := by rw [preempt_slot, if_pos rfl]
    have hall : (grantAll t (preempt t a low slot)).slots.get slot = .draining := by
      rw [grantAll_slot (by rw [hdrains]; exact nofun), hdrains]
    have hend := arbitrateRounds_slot (t := t) 2 (x := slot) (by rw [hall]; exact nofun)
    rw [← hround, h, hactive, hall, or_self] at hend
    cases hend

theorem arbitrated_of_victim_none (h : victim t (grantAll t a) = none) : arbitrated t a = grantAll t a := by
  rw [arbitrated, arbitrateRounds, h]

/-! ## A DRAINING slot falls free (R120, R123) -/

/-- Where no class waits, the slot stays FREE. -/
theorem arbitrated_freed_idle (h : ∀ j, (a.classes.get j).state ≠ .pending) :
    arbitrated t (a.putSlot slot .free) = a.putSlot slot .free := by
  have hempty : pendingRanked t (a.putSlot slot .free) = [] :=
    List.eq_nil_iff_forall_not_mem.mpr fun j hj => h j (mem_pendingRanked.mp hj)
  have hone := grantOne_of_none (t := t) (a := a.putSlot slot .free) (.inr hempty)
  have hall : grantAll t (a.putSlot slot .free) = a.putSlot slot .free := by rw [grantAll, hone, hone]
  rw [arbitrated_of_victim_none, hall]
  rw [hall, victim_eq_none_iff, hempty, List.drop_nil]
  exact fun _ _ hp => nomatch hp

theorem grant_class (a : Arbiter) (k : AnnClass) (slot : Slot) (j : AnnClass) :
    ((a.grant k slot).classes.get j).state = if j = k then .active slot else (a.classes.get j).state := by
  split
  · subst j
    exact congrArg ClassRec.state (class_get_put_same _ _ _)
  · exact congrArg ClassRec.state (class_get_put_other _ ‹_› _)

/-- The class that is granted a slot leaves the PENDING ones, and the others stay in their order. -/
theorem pendingRanked_grant {rest : List AnnClass} (hp : pendingRanked t a = k :: rest) :
    pendingRanked t (a.grant k slot) = rest := by
  have hsorted : (pendingRanked t a).Pairwise (Outranks t) := (rankOrder_sorted t).filter _
  rw [hp] at hsorted
  have hrest : ∀ j ∈ rest, j ≠ k := fun j hj e => by
    have habove := (List.pairwise_cons.mp hsorted).1 j hj
    rw [e] at habove
    exact habove.asymm habove
  have hpending : (a.grant k slot).isPending = fun j => decide (j ≠ k) && a.isPending j := by
    funext j
    rw [Bool.eq_iff_iff, isPending_iff, grant_class, Bool.and_eq_true, isPending_iff, decide_eq_true_eq]
    split <;> simp [*]
  have hfilter : pendingRanked t (a.grant k slot) = (pendingRanked t a).filter (· ≠ k) := by
    rw [pendingRanked, hpending, pendingRanked, List.filter_filter]
  rw [hfilter, hp, List.filter_cons_of_neg (by simp), List.filter_eq_self]
  exact fun j hj => decide_eq_true (hrest j hj)

/-- A DRAINING slot granted drains no more. -/
theorem draining_grant (h : a.slots.get slot = .draining) : a.draining = (a.grant k slot).draining + 1 := by
  cases slot with
  | slot1 =>
    have h1 : a.slots.slot1 = .draining := h
    by_cases h2 : a.slots.slot2 = .draining <;>
      simp [Arbiter.draining, Arbiter.grant, Arbiter.putSlot, Arbiter.putClass, PerSlot.put, h1, h2]
  | slot2 =>
    have h2 : a.slots.slot2 = .draining := h
    by_cases h1 : a.slots.slot1 = .draining <;>
      simp [Arbiter.draining, Arbiter.grant, Arbiter.putSlot, Arbiter.putClass, PerSlot.put, h1, h2]

/-- A slot freed and granted is granted. -/
theorem grant_putSlot (a : Arbiter) (k : AnnClass) (slot : Slot) (r : SlotRec) :
    (a.putSlot slot r).grant k slot = a.grant k slot := by
  simp only [Arbiter.grant, Arbiter.putSlot, Arbiter.putClass, slot_put_put]

/-- The highest-ranked PENDING class takes the slot, and there is no victim for the next one: it has no higher level than the
class that took the slot, nor than the classes that were ACTIVE before. -/
theorem arbitrated_freed_grants (hmatch : SlotsMatch a) (h : arbitrated t a = a) (hd : a.slots.get slot = .draining)
    (hk : (a.classes.get k).state = .pending)
    (htop : ∀ j, (a.classes.get j).state = .pending → j ≠ k → Outranks t k j) :
    arbitrated t (a.putSlot slot .free) = a.grant k slot := by
  obtain ⟨rest, hp, hrest⟩ := pendingRanked_of_top hk htop
  have hnofree : a.freeSlot = none :=
    (no_free_or_no_pending_of_settled h).resolve_right (by rw [hp]; exact nofun)
  have hfree : (a.putSlot slot .free).freeSlot = some slot := freeSlot_putSlot hnofree slot
  have hgranted : (a.grant k slot).freeSlot = none := by
    rw [freeSlot_eq_none_iff] at hnofree ⊢
    intro x
    rw [grant_slot]
    split
    · exact nofun
    · exact hnofree x
  have hall : grantAll t (a.putSlot slot .free) = a.grant k slot := by
    rw [grantAll, grantOne_of_some (k := k) (rest := rest) hfree hp, grant_putSlot, grantOne_of_none (.inl hgranted)]
  rw [arbitrated_of_victim_none, hall]
  rw [hall, victim_eq_none_iff, pendingRanked_grant hp]
  intro _ p hnext j hj
  by_cases hjk : j = k
  · subst hjk
    exact (hrest p (List.mem_of_mem_drop (List.mem_of_head? hnext))).level_le
  · have hsame : (a.slotOf j).isSome = true := by
      rw [Option.isSome_iff_exists] at hj ⊢
      obtain ⟨x, hx⟩ := hj
      rw [slotOf_eq_some_iff, grant_class, if_neg hjk] at hx
      exact ⟨x, (slotOf_eq_some_iff a j x).mpr hx⟩
    have hbefore := victim_eq_none_iff.mp (victim_of_settled hmatch h) hnofree p
    rw [hp, draining_grant (k := k) hd, List.drop_succ_cons] at hbefore
    exact hbefore hnext j hsame

end

/-! ## DRAIN_COMPLETION (R58, R123) -/

section
variable {slot : Slot} {s : State}

/-- The ramp unit once the arbiter has taken a drain completion. -/
def drainTaken (slot : Slot) (s : State) : Ramp := { s.ramp with handed := s.ramp.handed.put slot false }

theorem takeDrain_unhanded (h : s.ramp.handed.get slot ≠ true) : takeDrain slot s = s := if_neg h

theorem takeDrain_not_draining (h : s.ramp.handed.get slot = true) (hd : s.arbiter.slots.get slot ≠ .draining) :
    takeDrain slot s = s.withRamp (drainTaken slot s) := by
  rw [takeDrain, if_pos h]
  exact if_neg hd

theorem takeDrain_draining (h : s.ramp.handed.get slot = true) (hd : s.arbiter.slots.get slot = .draining) :
    takeDrain slot s =
      arbitrate (((s.withRamp (drainTaken slot s)).withArbiter (s.arbiter.putSlot slot .free)).post .annState) := by
  rw [takeDrain, if_pos h]
  exact if_pos hd

theorem takeDrain_ramp (h : s.ramp.handed.get slot = true) : (takeDrain slot s).ramp = drainTaken slot s := by
  by_cases hd : s.arbiter.slots.get slot = .draining
  · rw [takeDrain_draining h hd, (arbitrate_only _).ramp, (post_only _ _).ramp]
    rfl
  · rw [takeDrain_not_draining h hd]
    rfl

theorem takeDrain_arbiter (h : s.ramp.handed.get slot = true) (hd : s.arbiter.slots.get slot = .draining) :
    (takeDrain slot s).arbiter = arbitrated s.tables (s.arbiter.putSlot slot .free) := by
  rw [takeDrain_draining h hd, arbitrate_arbiter, (post_only _ _).tables, (post_only _ _).arbiter]
  rfl

/-- The freed slot and the grant are told by one ANN_STATE (R131, R182). -/
theorem takeDrain_postsJust (h : s.ramp.handed.get slot = true) (hd : s.arbiter.slots.get slot = .draining) :
    PostsJust [.annState] s (takeDrain slot s) := by
  rw [takeDrain_draining h hd]
  have hfreed := (PostsJust.post .annState
    ((s.withRamp (drainTaken slot s)).withArbiter (s.arbiter.putSlot slot .free))).after (s := s) rfl
  exact hfreed.trans_again (arbitrate_link _) fun n hn => (List.mem_ite_nil_left.mp hn).2

end

/-- Settles O33: by whether the completion was handed, and whether its slot drains; then by whether a class waits. -/
theorem drainCompletionGrants : Obligations.DrainCompletionGrants := by
  intro slot s ha ⟨hmatch, hsettled⟩
  dsimp only
  by_cases h : s.ramp.handed.get slot = true
  · simp only [if_pos h]
    by_cases hd : s.arbiter.slots.get slot = .draining
    · simp only [if_pos hd]
      obtain ⟨t, hx, ho, hsends⟩ := event_sends ha (takeDrain_postsJust h hd) (by decide)
      refine ⟨t, hx, (takeDrain_only slot s).comp ho, ho.ramp.trans (takeDrain_ramp h), hsends, fun hidle => ?_,
        fun k hk htop => ?_⟩
      · rw [ho.arbiter, takeDrain_arbiter h hd, arbitrated_freed_idle hidle]
        rfl
      · rw [ho.arbiter, takeDrain_arbiter h hd, arbitrated_freed_grants hmatch hsettled hd hk htop]
        rfl
    · simp only [if_neg hd]
      have htaken := takeDrain_not_draining h hd
      have hlink : (takeDrain slot s).link = s.link := by rw [htaken]; rfl
      refine ⟨_, event_quiet ha hlink, takeDrain_only slot s, takeDrain_ramp h, ?_, hlink⟩
      rw [htaken]
      rfl
  · simp only [if_neg h]
    have hsame := takeDrain_unhanded h
    exact ⟨_, event_quiet ha (congrArg State.link hsame), hsame⟩

end Sys2Proof
end

section
/-! SUPPORT. The boost curve: at its breakpoints, between them, and as the speed rises. -/

set_option Elab.async false

namespace Sys2Proof

open Sys2Proof.Machine

/-! ## One interval of the curve (R89) -/

theorem curveBoost_below {v : Nat} {a b : Nat × Nat} (h : v < b.1) (rest : List (Nat × Nat)) :
    curveBoost v (a :: b :: rest) = a.2 + (b.2 - a.2) * (v - a.1) / (b.1 - a.1) := if_pos h

theorem curveBoost_beyond {v : Nat} {b : Nat × Nat} (h : b.1 ≤ v) (a : Nat × Nat) (rest : List (Nat × Nat)) :
    curveBoost v (a :: b :: rest) = curveBoost v (b :: rest) := if_neg (not_lt.mpr h)

/-- Below the end of an interval, the share of its rise is at most the whole. -/
theorem share_le_rise {v s₀ s₁ : Nat} (h : v < s₁) (rise : Nat) : rise * (v - s₀) / (s₁ - s₀) ≤ rise := by
  refine Nat.div_le_of_le_mul ?_
  rw [Nat.mul_comm]
  exact Nat.mul_le_mul_right rise (by omega)

theorem share_mono {v w : Nat} (h : v ≤ w) (rise s₀ s₁ : Nat) :
    rise * (v - s₀) / (s₁ - s₀) ≤ rise * (w - s₀) / (s₁ - s₀) :=
  Nat.div_le_div_right (Nat.mul_le_mul_left rise (Nat.sub_le_sub_right h s₀))

/-! ## Breakpoints that rise (R88) -/

theorem pointsRise_cons_cons {a b : Nat × Nat} {rest : List (Nat × Nat)} :
    pointsRise (a :: b :: rest) = true ↔ (a.1 < b.1 ∧ a.2 ≤ b.2) ∧ pointsRise (b :: rest) = true := by
  simp [pointsRise]

/-- The first breakpoint's speed is the least. -/
theorem first_speed_le {a p : Nat × Nat} {rest : List (Nat × Nat)} (h : pointsRise (a :: rest) = true)
    (hp : p ∈ a :: rest) : a.1 ≤ p.1 := by
  obtain rfl | hp := List.mem_cons.mp hp
  · exact le_rfl
  · have hrise := List.pairwise_cons.mp ((pointsRise_iff _).mp h)
    exact (hrise.1 p hp).1.le

/-- The first breakpoint's boost is the least of the curve. -/
theorem first_boost_le (v : Nat) : ∀ {a : Nat × Nat} {rest : List (Nat × Nat)}, pointsRise (a :: rest) = true →
    a.2 ≤ curveBoost v (a :: rest)
  | _, [], _ => le_rfl
  | a, b :: rest, h => by
    obtain ⟨⟨-, hboost⟩, hrest⟩ := pointsRise_cons_cons.mp h
    obtain hv | hv := lt_or_ge v b.1
    · rw [curveBoost_below hv]
      exact Nat.le_add_right _ _
    · rw [curveBoost_beyond hv]
      exact hboost.trans (first_boost_le v hrest)

theorem curveBoost_breakpoint : ∀ {points : List (Nat × Nat)}, pointsRise points = true →
    ∀ p ∈ points, curveBoost p.1 points = p.2
  | [], _, _, hp => nomatch hp
  | [a], _, p, hp => by
    obtain rfl := List.mem_singleton.mp hp
    rfl
  | a :: b :: rest, h, p, hp => by
    obtain ⟨⟨hspeed, -⟩, hrest⟩ := pointsRise_cons_cons.mp h
    obtain rfl | hp := List.mem_cons.mp hp
    · rw [curveBoost_below hspeed, Nat.sub_self, Nat.mul_zero, Nat.zero_div, Nat.add_zero]
    · rw [curveBoost_beyond (first_speed_le hrest hp)]
      exact curveBoost_breakpoint hrest p hp

theorem curveBoost_mono {v w : Nat} (h : v ≤ w) : ∀ {points : List (Nat × Nat)}, pointsRise points = true →
    curveBoost v points ≤ curveBoost w points
  | [], _ => le_rfl
  | [_], _ => le_rfl
  | a :: b :: rest, hrise => by
    obtain ⟨⟨-, hboost⟩, hrest⟩ := pointsRise_cons_cons.mp hrise
    obtain hw | hw := lt_or_ge w b.1
    · rw [curveBoost_below hw, curveBoost_below (h.trans_lt hw)]
      exact Nat.add_le_add_left (share_mono h _ _ _) _
    · rw [curveBoost_beyond hw]
      obtain hv | hv := lt_or_ge v b.1
      · rw [curveBoost_below hv]
        calc a.2 + (b.2 - a.2) * (v - a.1) / (b.1 - a.1) ≤ a.2 + (b.2 - a.2) :=
              Nat.add_le_add_left (share_le_rise hv _) _
          _ = b.2 := Nat.add_sub_cancel' hboost
          _ ≤ curveBoost w (b :: rest) := first_boost_le w hrest
      · rw [curveBoost_beyond hv]
        exact curveBoost_mono h hrest

/-- The curve stays under its breakpoints' bound, whether they rise or not. -/
theorem curveBoost_le {bound : Nat} (v : Nat) : ∀ {points : List (Nat × Nat)}, (∀ p ∈ points, p.2 ≤ bound) →
    curveBoost v points ≤ bound
  | [], _ => Nat.zero_le bound
  | [a], h => h a (List.mem_singleton_self a)
  | a :: b :: rest, h => by
    obtain ⟨ha, hrest⟩ := List.forall_mem_cons.mp h
    obtain hv | hv := lt_or_ge v b.1
    · have hb := hrest b List.mem_cons_self
      have hshare := share_le_rise (s₀ := a.1) hv (b.2 - a.2)
      rw [curveBoost_below hv]
      omega
    · rw [curveBoost_beyond hv]
      exact curveBoost_le v hrest

/-- Settles O28, each part by induction on the breakpoints, one interval at a time. -/
theorem curveNeverFalls : Obligations.CurveNeverFalls := fun _ h =>
  ⟨curveBoost_breakpoint h, fun _ _ hvw => curveBoost_mono hvw h, fun v _ => curveBoost_le v⟩

end Sys2Proof
end

section
/-! SUPPORT. What a sample, a report, a frame boundary and a pulse do to the speed tracker, and the statements on them. -/

set_option Elab.async false

namespace Sys2Proof

open Sys2Proof.Machine

/-! ## Samples (R74, R81, R85) -/

/-- Sf after a sample in the terms of R85: a sample of 0 passes, and one that differs from Sf by the hysteresis. -/
def filteredSpeed (t : Tables) (sample sf : Nat) : Nat :=
  if sample = 0 ∨ t.global .speedHyst ≤ ((sample : Int) - sf).natAbs then sample else sf

theorem filterSpeed_eq (t : Tables) (sample sf : Nat) :
    filterSpeed sf sample (t.global .speedHyst).toNat = filteredSpeed t sample sf := by
  have hdistance : (sf + (t.global .speedHyst).toNat ≤ sample ∨ sample + (t.global .speedHyst).toNat ≤ sf) ↔
      t.global .speedHyst ≤ ((sample : Int) - sf).natAbs := by omega
  simp only [filterSpeed, filteredSpeed, hdistance]

/-- The tracker once a sample is recorded and filtered, a change of Sf having recomputed the derived values (R92). -/
def sampledTracker (t : Tables) (live : Scene) (sample : Nat) (m : Tracker) : Tracker :=
  let recorded := { m with lastSample := sample, sf := filteredSpeed t sample m.sf }
  if filteredSpeed t sample m.sf = m.sf then recorded else derived t live recorded

theorem takeSample_tracker (sample : Nat) (s : State) :
    (takeSample sample s).tracker = sampledTracker s.tables s.planner.live sample s.tracker := by
  unfold takeSample sampledTracker
  rw [filterSpeed_eq]
  exact apply_ite State.tracker _ _ _

/-! ## Reports (R74 to R76, R79) -/

/-- The tracker that a valid report has reached, before its sample. -/
def reportedTracker (m : Tracker) : Tracker :=
  { m with staleCount := 0, state := if m.state = .stale then .fresh else m.state }

/-- The state that a valid report leaves before its sample. -/
def reportedState (s : State) : State :=
  if s.tracker.state = .stale then (s.withTracker { s.tracker with staleCount := 0, state := .fresh }).post .speedState
  else s.withTracker { s.tracker with staleCount := 0 }

theorem validReport_eq (v : Nat) (s : State) : validReport v s = takeSample (reportSample v) (reportedState s) := rfl

theorem reportedState_only (s : State) : Only [.tracker, .link] s (reportedState s) :=
  Only.ite (fun _ => (withTracker_only s _).comp (post_only _ _)) fun _ => (withTracker_only s _).mono (by decide)

theorem reportedState_tracker (s : State) : (reportedState s).tracker = reportedTracker s.tracker := by
  unfold reportedState reportedTracker
  split
  · exact (post_only _ _).tracker
  · rfl

/-- The report that ends STALE posts SPEED_STATE (R79). -/
theorem reportedState_postsJust (s : State) :
    PostsJust (if s.tracker.state = .stale then [.speedState] else []) s (reportedState s) := by
  unfold reportedState
  split
  · exact (PostsJust.post _ _).after rfl
  · exact .of_link rfl

theorem validReport_tracker (v : Nat) (s : State) :
    (validReport v s).tracker = sampledTracker s.tables s.planner.live (reportSample v) (reportedTracker s.tracker) := by
  have honly := reportedState_only s
  rw [validReport_eq, takeSample_tracker, reportedState_tracker, honly.tables, honly.planner]

theorem validReport_postsJust (v : Nat) (s : State) :
    PostsJust (if s.tracker.state = .stale then [.speedState] else []) s (validReport v s) :=
  (reportedState_postsJust s).then (takeSample_only _ _).link

theorem handleSpeed_wrongSource {s : State} (h : s.tables.global .speedSource = 1) (p : List Byte) :
    handleSpeed p s = Handled.refuse s .wrongSource := if_pos ((pulseSource_iff s).mpr h)

theorem handleSpeed_report {s : State} (h : s.tables.global .speedSource ≠ 1) (hi lo valid : Byte) :
    handleSpeed [hi, lo, valid] s =
      if lowBit valid then Handled.done (validReport (u16 hi lo) s) else Handled.done s.countInvalidReport :=
  if_neg (mt (pulseSource_iff s).mp h)

theorem exec_speed (tag hi lo valid : Byte) (s : State) :
    exec (.speed tag [hi, lo, valid]) s = request 0x04 tag true true (handleSpeed [hi, lo, valid]) s := rfl

/-- A request that reaches its owner is answered in the same event. -/
theorem request_reaches {s : State} (h : Handles s) (kind tag : Byte) (ready : Bool) (handle : State → Handled) :
    request kind tag true ready handle s = .next (pump (appendReply kind tag (handle (frameTaken s)))) := by
  obtain ⟨⟨hheld, -⟩, hreplies, hloading⟩ := h
  have hroom : ¬4 ≤ (frameTaken s).link.replies.length := not_le.mpr hreplies
  have hready : (ready && decide ((frameTaken s).startup.state = .loading)) = false := by simp [hloading]
  rw [request, event_next hheld, dispatch, if_neg hroom, commonChecks, hready]
  rfl

/-- A request whose owner answers OK, having counted in the link and posted nothing. -/
theorem request_counted {s : State} (h : Handles s) {kind tag : Byte} {ready : Bool} {handle : State → Handled}
    {u : State} (hu : handle (frameTaken s) = Handled.done u) (hlink : LinkOk u.link) :
    ∃ t, request kind tag true ready handle s = .next t ∧ Only [.link, .draws] u t ∧
      Sends u.link t [replyFrame kind tag .ok []] [] := by
  have happended : (appendReply kind tag (Handled.done u)).link = { u.link with
      replies := u.link.replies ++ [replyFrame kind tag .ok []]
      notices := u.link.notices ++ ([] : List Notice).filter fun n => n ∉ u.link.notices } := by
    simp [appendReply, Handled.done, replyFrame]
  obtain ⟨hsends, honly⟩ := pump_sends hlink happended (by decide)
  refine ⟨_, request_reaches h kind tag ready handle, ?_, ?_⟩ <;> rw [hu]
  · exact (withLink_only u _).comp honly
  · exact hsends

/-- Settles O26: by the source, and under REPORT by the valid flag. -/
theorem speedReportRule : Obligations.SpeedReportRule := by
  intro tag hi lo valid s h
  rw [exec_speed]
  by_cases hsource : s.tables.global .speedSource = 1
  · obtain ⟨t, hx, href⟩ := request_refused h (kind := 0x04) (tag := tag) (ready := true)
      (handleSpeed_wrongSource (s := frameTaken s) hsource _)
    exact ⟨t, hx, by rwa [if_pos hsource]⟩
  · have hreport := handleSpeed_report (s := frameTaken s) hsource hi lo valid
    simp only [if_neg hsource]
    cases hvalid : valid.getLsbD 0 with
    | false =>
      rw [lowBit, hvalid, if_neg Bool.false_ne_true] at hreport
      have ⟨⟨_, hlink⟩, _⟩ := h
      obtain ⟨t, hx, honly, hsends⟩ := request_counted h (kind := 0x04) (tag := tag) (ready := true) hreport hlink
      exact ⟨t, hx, ((frameTaken_only s).trans (withLink_only _ _)).comp honly, hsends⟩
    | true =>
      rw [lowBit, hvalid, if_pos rfl] at hreport
      obtain ⟨t, hx, honly, hreply⟩ := request_done h (kind := 0x04) (tag := tag) (ready := true) hreport
        (validReport_postsJust (u16 hi lo) (frameTaken s)) (by split <;> decide)
      refine ⟨t, hx, ?_, honly.tracker.trans (validReport_tracker _ _), hreply⟩
      exact ((frameTaken_only s).comp (validReport_only _ _) (n := [.tracker, .link])).comp honly

/-! ## Staleness (R77) -/

theorem staleLimit_le_iff (s : State) (n : Nat) : staleLimit s ≤ n ↔ s.tables.global .staleTime * 100 ≤ n := by
  unfold staleLimit
  omega

/-- The tracker with its stale counter at a count, FRESH only below the limit (R77). -/
def countedTracker (t : Tables) (n : Nat) (m : Tracker) : Tracker :=
  { m with
    staleCount := n, state := if m.state = .fresh ∧ t.global .staleTime * 100 ≤ n then .stale else m.state }

theorem goStale_tracker (s : State) :
    (goStale s).tracker = countedTracker s.tables s.tracker.staleCount s.tracker := by
  simp only [goStale, staleLimit_le_iff, countedTracker]
  split
  · exact (post_only _ _).tracker
  · rfl

theorem goStale_postsJust (s : State) :
    PostsJust (if s.tracker.state = .fresh ∧ s.tables.global .staleTime * 100 ≤ s.tracker.staleCount then [.speedState]
      else []) s (goStale s) := by
  simp only [goStale, staleLimit_le_iff]
  split
  · exact (PostsJust.post _ _).after rfl
  · exact .of_link rfl

theorem goStale_early {s : State}
    (h : ¬(s.tracker.state = .fresh ∧ s.tables.global .staleTime * 100 ≤ s.tracker.staleCount)) : goStale s = s :=
  if_neg (mt (And.imp_right (staleLimit_le_iff s _).mp) h)

/-! ## Boundaries (R77, R81) -/

section
variable {s : State}

theorem trackerBoundary_fresh (h : s.tracker.state = .fresh) :
    trackerBoundary s = goStale (s.withTracker { s.tracker with staleCount := s.tracker.staleCount + 1 }) := by
  simp only [trackerBoundary, h]

theorem trackerBoundary_fresh_tracker (h : s.tracker.state = .fresh) :
    (trackerBoundary s).tracker = countedTracker s.tables (s.tracker.staleCount + 1) s.tracker := by
  rw [trackerBoundary_fresh h, goStale_tracker]
  rfl

theorem trackerBoundary_fresh_postsJust (h : s.tracker.state = .fresh) :
    PostsJust (if s.tables.global .staleTime * 100 ≤ s.tracker.staleCount + 1 then [.speedState] else []) s
      (trackerBoundary s) := by
  have hposts := goStale_postsJust (s.withTracker { s.tracker with staleCount := s.tracker.staleCount + 1 })
  rw [trackerBoundary_fresh h]
  simpa [h] using hposts.after (s := s) rfl

theorem trackerBoundary_stale (h : s.tracker.state = .stale) : trackerBoundary s = s := by
  simp only [trackerBoundary, h]

theorem trackerBoundary_windowEnd (h : s.tracker.state = .pulse) (hend : 250 ≤ s.tracker.windowFrames + 1) :
    trackerBoundary s = endWindow s := by
  simp only [trackerBoundary, h, if_pos hend]

theorem trackerBoundary_inWindow (h : s.tracker.state = .pulse) (hend : ¬250 ≤ s.tracker.windowFrames + 1) :
    trackerBoundary s = s.withTracker { s.tracker with windowFrames := s.tracker.windowFrames + 1 } := by
  simp only [trackerBoundary, h, if_neg hend]

end

theorem endWindow_tracker (s : State) :
    (endWindow s).tracker = sampledTracker s.tables s.planner.live
      (windowSample s.tracker.windowPulses (s.tables.global .pulseConst).toNat)
      { s.tracker with windowPulses := 0, windowFrames := 0 } := takeSample_tracker _ _

/-! ## Pulses (R80) -/

theorem countedEdge_iff (e : Edge) (s : State) :
    e = countedEdge s ↔ (e = .falling ↔ s.tables.global .pulseEdge = 1) := by
  unfold countedEdge
  split <;> cases e <;> simp [*]

theorem wheelPulse_eq (e : Edge) (s : State) :
    wheelPulse e s =
      if s.tables.global .speedSource = 1 ∧ (e = .falling ↔ s.tables.global .pulseEdge = 1) then
        s.withTracker { s.tracker with windowPulses := min 4095 (s.tracker.windowPulses + 1) }
      else s := by
  simp only [wheelPulse, pulseSource_iff, countedEdge_iff]

/-! ## The events -/

/-- An event whose command does not touch the link answers its own effect. -/
theorem exec_quiet {c : Instr} {s : State} (ha : Awake s) (ho : outside c = false := by rfl)
    (hlink : Block.link ∉ touches c := by decide) : exec c s = .next (effect c s) := by
  rw [exec_event ho]
  exact event_quiet ha ((effect_only c s).link hlink)

theorem exec_staleTimeout (s : State) : exec .staleTimeout s = event goStale s := rfl

theorem exec_speedTrackerBoundary (s : State) : exec .speedTrackerBoundary s = event trackerBoundary s := rfl

/-- WINDOW_END under PULSE is the end of a window, and otherwise nothing. -/
theorem exec_windowEnd {s : State} (ha : Awake s) (h : s.tracker.state = .pulse) :
    exec .windowEnd s = .next (if 250 ≤ s.tracker.windowFrames + 1 then endWindow s else s) := by
  rw [exec_quiet ha]
  simp only [effect, h, true_and]

/-- Settles O27: the boundary by the speed state, the comparison by whether the counter is late, the pulse by its edge. -/
theorem trackerBoundaryRule : Obligations.TrackerBoundaryRule := by
  refine ⟨fun s ha => ?_, fun s ha => ?_, fun e s ha => ?_⟩
  · rw [exec_speedTrackerBoundary]
    cases hstate : s.tracker.state with
    | fresh =>
      obtain ⟨t, hx, honly, hsends⟩ := event_sends ha (trackerBoundary_fresh_postsJust hstate) (by split <;> decide)
      refine ⟨t, hx, (trackerBoundary_only s).comp honly, ?_, hsends⟩
      rw [honly.tracker, trackerBoundary_fresh_tracker hstate]
      simp [countedTracker, hstate]
    | stale =>
      have hsame := trackerBoundary_stale hstate
      exact ⟨_, event_quiet ha (congrArg State.link hsame), trackerBoundary_only s, hsame⟩
    | pulse =>
      by_cases hend : 250 ≤ s.tracker.windowFrames + 1
      · have hboundary := trackerBoundary_windowEnd hstate hend
        have honly := hboundary ▸ endWindow_only s
        refine ⟨_, event_quiet ha honly.link, trackerBoundary_only s, honly.link, ?_⟩
        rw [if_pos hend, exec_windowEnd ha hstate, if_pos hend, hboundary]
        exact ⟨rfl, endWindow_tracker s⟩
      · have hboundary := trackerBoundary_inWindow hstate hend
        have hlink : (trackerBoundary s).link = s.link := by rw [hboundary]; rfl
        refine ⟨_, event_quiet ha hlink, trackerBoundary_only s, hlink, ?_⟩
        rw [if_neg hend, exec_windowEnd ha hstate, if_neg hend, hboundary]
        exact ⟨rfl, rfl⟩
  · rw [exec_staleTimeout]
    by_cases hlate : s.tracker.state = .fresh ∧ s.tables.global .staleTime * 100 ≤ s.tracker.staleCount
    · have hposts := goStale_postsJust s
      rw [if_pos hlate] at hposts
      obtain ⟨t, hx, honly, hsends⟩ := event_sends ha hposts (by decide)
      refine ⟨t, hx, ?_⟩
      rw [if_pos hlate]
      refine ⟨(goStale_only s).comp honly, ?_, hsends⟩
      rw [honly.tracker, goStale_tracker, countedTracker, if_pos hlate]
    · have hsame := goStale_early hlate
      refine ⟨_, event_quiet ha (congrArg State.link hsame), ?_⟩
      rw [if_neg hlate, hsame]
  · rw [exec_quiet ha (hlink := by simp [touches])]
    exact congrArg Host.Outcome.next (wheelPulse_eq e s)

end Sys2Proof
end

section
/-! SUPPORT. The values of the speed tracker stay in their ranges. -/

set_option Elab.async false

namespace Sys2Proof

open Sys2Proof.Machine

/-! ## What valid tables give the tracker (R72, R87) -/

theorem TablesValid.globals {t : Tables} (ht : TablesValid t) : GlobalsMeet t.globals := by
  obtain ⟨-, hnumbers, -⟩ := ht
  exact hnumbers .globals (by decide)

theorem TablesValid.staleTime_le {t : Tables} (ht : TablesValid t) : t.global .staleTime ≤ 50 := by
  obtain ⟨⟨-, -, -, -, -, -, hstale, -⟩, -⟩ := ht.globals
  exact hstale.2

theorem TablesValid.sdvBassDiv_cases {t : Tables} (ht : TablesValid t) :
    t.global .sdvBassDiv = 0 ∨ 4 ≤ t.global .sdvBassDiv := by
  obtain ⟨-, ⟨-, -, -, hdiv⟩, -⟩ := ht.globals
  exact hdiv

theorem TablesValid.inUse_boost_le {t : Tables} (ht : TablesValid t) : ∀ p ∈ inUsePoints t.speedCurve, p.2 ≤ 48 := by
  obtain ⟨-, -, ⟨hrange, -⟩, -⟩ := ht
  intro p hp
  obtain ⟨point, hpoint, rfl⟩ := List.mem_map.mp hp
  exact (hrange point (List.mem_of_mem_filter hpoint)).2

/-! ## The ranges, one by one (R71, R73) -/

/-- TrackerOk, of the tables and the tracker alone. -/
structure TrackerFits (t : Tables) (m : Tracker) : Prop where
  sf : m.sf ≤ 255
  lastSample : m.lastSample ≤ 255
  windowFrames : m.windowFrames ≤ 249
  windowPulses : m.windowPulses ≤ 4095
  staleCount : m.staleCount ≤ 5000
  fresh : m.state = .fresh → m.staleCount < 5000
  boost : m.boost ≤ 48
  scaledBoost : m.scaledBoost ≤ 48
  bassOffset : m.bassOffset ≤ 12
  pulse : m.state = .pulse ↔ t.global .speedSource = 1

theorem trackerOk_iff (s : State) : TrackerOk s ↔ TrackerFits s.tables s.tracker := by
  constructor
  · rintro ⟨⟨hsf, hlast, hframes, hpulses⟩, ⟨hstale, hfresh⟩, ⟨hboost, hscaled, hbass⟩, hpulse⟩
    exact ⟨hsf, hlast, hframes, hpulses, hstale, hfresh, hboost, hscaled, hbass, hpulse⟩
  · rintro ⟨hsf, hlast, hframes, hpulses, hstale, hfresh, hboost, hscaled, hbass, hpulse⟩
    exact ⟨⟨hsf, hlast, hframes, hpulses⟩, ⟨hstale, hfresh⟩, ⟨hboost, hscaled, hbass⟩, hpulse⟩

theorem TrackerOk.fits {s : State} (hs : TrackerOk s) : TrackerFits s.tables s.tracker := (trackerOk_iff s).mp hs

theorem bassOffset_le {bs : Nat} {d : Int} (hbs : bs ≤ 48) (hd : d = 0 ∨ 4 ≤ d) :
    (if d = 0 then 0 else bs / d.toNat) ≤ 12 := by
  split
  · decide
  · have hfour : 4 ≤ d.toNat := by omega
    exact (Nat.div_le_div_left hfour (by decide)).trans (Nat.div_le_div_right hbs)

section
variable {t : Tables} {m : Tracker}

/-- The derived values are in range by the curve's bound, the clamp and the divisor (R89 to R91). -/
theorem TrackerFits.derived {u : Tables} (h : TrackerFits t m) (hu : TablesValid u) (live : Scene) :
    TrackerFits t (derived u live m) :=
  { h with
    boost := curveBoost_le m.sf hu.inUse_boost_le
    scaledBoost := Nat.min_le_left _ _
    bassOffset := bassOffset_le (Nat.min_le_left _ _) hu.sdvBassDiv_cases }

theorem TrackerFits.sampled {sample : Nat} (h : TrackerFits t m) (ht : TablesValid t) (live : Scene)
    (hsample : sample ≤ 255) : TrackerFits t (sampledTracker t live sample m) := by
  have hfiltered : filteredSpeed t sample m.sf ≤ 255 := by
    unfold filteredSpeed
    split
    · exact hsample
    · exact h.sf
  have hrecorded : TrackerFits t { m with lastSample := sample, sf := filteredSpeed t sample m.sf } :=
    { h with sf := hfiltered, lastSample := hsample }
  unfold sampledTracker
  dsimp only
  split
  · exact hrecorded
  · exact hrecorded.derived ht live

theorem TrackerFits.reported (h : TrackerFits t m) : TrackerFits t (reportedTracker m) :=
  { h with
    staleCount := Nat.zero_le _
    fresh := fun _ => Nat.zero_lt_succ _
    pulse := by
      rw [← h.pulse, reportedTracker]
      dsimp only
      split <;> simp [*] }

/-- A FRESH counter stays below the limit, and the limit is at most 5000 frames (R77). -/
theorem TrackerFits.counted {n : Nat} (h : TrackerFits t m) (ht : TablesValid t) (hn : n ≤ 5000) :
    TrackerFits t (countedTracker t n m) :=
  { h with
    staleCount := hn
    fresh := by
      have hlimit := ht.staleTime_le
      dsimp only [countedTracker]
      split
      next => nofun
      next hearly =>
        intro hfresh
        have hbelow := not_and.mp hearly hfresh
        omega
    pulse := by
      rw [← h.pulse]
      dsimp only [countedTracker]
      split
      next hlate => simp [hlate.1]
      next => rfl }

theorem TrackerFits.emptyWindow (h : TrackerFits t m) : TrackerFits t { m with windowPulses := 0, windowFrames := 0 } :=
  { h with windowFrames := Nat.zero_le _, windowPulses := Nat.zero_le _ }

/-- A switch of the source makes the state follow it (R83, R84). -/
theorem TrackerFits.switched {now : Tables} (h : TrackerFits t m) : TrackerFits now (switchedTracker t now m) := by
  unfold switchedTracker
  split
  · split
    next hpulse =>
      exact { h.emptyWindow with fresh := nofun, pulse := iff_of_true rfl hpulse }
    next hreport =>
      exact { h with staleCount := Nat.zero_le _, fresh := nofun, pulse := iff_of_false nofun hreport }
  next hsame => exact { h with pulse := by rw [not_not.mp hsame]; exact h.pulse }

end

/-! ## The shared operations -/

theorem TrackerOk.keep {s t : State} (hs : TrackerOk s) (htracker : t.tracker = s.tracker)
    (hglobals : t.tables.globals = s.tables.globals) : TrackerOk t := by
  unfold TrackerOk Tables.global at *
  rwa [htracker, hglobals]

theorem TrackerOk.of_frame {l : List Block} {s t : State} (hs : TrackerOk s) (h : Only l s t)
    (htables : Block.tables ∉ l := by decide) (htracker : Block.tracker ∉ l := by decide) : TrackerOk t :=
  hs.keep (h.tracker htracker) (congrArg Tables.globals (h.tables htables))

/-- An event that leaves the tables keeps the invariant if it leaves a tracker in range. -/
theorem TrackerOk.of_tracker {l : List Block} {s t : State} (h : Only l s t) (ht : TrackerFits s.tables t.tracker)
    (htables : Block.tables ∉ l := by decide) : TrackerOk t := by
  rwa [trackerOk_iff, h.tables htables]

section
variable {s : State} (ht : TablesValid s.tables) (hs : TrackerOk s)
include ht hs

theorem validReport_trackerOk (v : Nat) : TrackerOk (validReport v s) := by
  refine .of_tracker (validReport_only v s) ?_
  rw [validReport_tracker]
  exact hs.fits.reported.sampled ht _ (Nat.min_le_left _ _)

theorem handleSpeed_trackerOk (p : List Byte) : TrackerOk (handleSpeed p s).state := by
  unfold handleSpeed
  split
  · exact hs
  · split
    · split
      · exact validReport_trackerOk ht hs _
      · exact hs.of_frame (withLink_only s _)
    · exact hs

theorem goStale_trackerOk : TrackerOk (goStale s) := by
  have hfits := hs.fits
  refine .of_tracker (goStale_only s) ?_
  rw [goStale_tracker]
  exact hfits.counted ht hfits.staleCount

theorem endWindow_trackerOk : TrackerOk (endWindow s) := by
  refine .of_tracker (endWindow_only s) ?_
  rw [endWindow_tracker]
  exact hs.fits.emptyWindow.sampled ht _ (Nat.min_le_left _ _)

theorem trackerBoundary_trackerOk : TrackerOk (trackerBoundary s) := by
  have hfits := hs.fits
  cases hstate : s.tracker.state with
  | fresh =>
    refine .of_tracker (trackerBoundary_only s) ?_
    rw [trackerBoundary_fresh_tracker hstate]
    exact hfits.counted ht (hfits.fresh hstate)
  | stale =>
    rw [trackerBoundary_stale hstate]
    exact hs
  | pulse =>
    by_cases hend : 250 ≤ s.tracker.windowFrames + 1
    · rw [trackerBoundary_windowEnd hstate hend]
      exact endWindow_trackerOk ht hs
    · rw [trackerBoundary_inWindow hstate hend, trackerOk_iff]
      exact { hfits with windowFrames := Nat.le_of_lt_succ (not_le.mp hend) }

theorem commitIfMarked_trackerOk : TrackerOk (commitIfMarked s) := by
  unfold commitIfMarked
  split
  · refine .of_tracker (takeCommit_only s) ?_
    rw [takeCommit_tracker]
    split
    · exact hs.fits
    · exact hs.fits.derived ht _
  · exact hs

end

theorem wheelPulse_trackerOk (e : Edge) {s : State} (hs : TrackerOk s) : TrackerOk (wheelPulse e s) := by
  rw [wheelPulse_eq]
  split
  · exact (trackerOk_iff _).mpr { hs.fits with windowPulses := Nat.min_le_left _ _ }
  · exact hs

/-! ## Accepted writes (R83, R84, R88, R91) -/

theorem acceptNums_trackerOk (id : TableId) (first k : Nat) (l : List Int) {s : State} (hs : TrackerOk s)
    (hvalid : TablesValid (acceptNums id first k l s).tables) : TrackerOk (acceptNums id first k l s) := by
  cases id
  case globals =>
    obtain ⟨-, -, -, htracker, -⟩ := acceptNums_globals_acts first k l s
    have hswitched := hs.fits.switched (now := (acceptNums .globals first k l s).tables)
    rw [trackerOk_iff, htracker]
    split
    · exact hswitched
    · exact hswitched.derived hvalid _
  all_goals exact hs.keep rfl rfl

theorem acceptCurve_trackerOk (l : List CurvePoint) {s : State} (hs : TrackerOk s)
    (hvalid : TablesValid (acceptCurve l s).tables) : TrackerOk (acceptCurve l s) := by
  have hwritten : TrackerOk (s.withTables { s.tables with speedCurve := l }) := hs.keep rfl rfl
  exact (trackerOk_iff _).mpr (hwritten.fits.derived hvalid s.planner.live)

/-- The owner's act on an accepted write leaves the tracker in range where it leaves valid tables. -/
theorem TableAct.trackerOk {s t : State} (h : TableAct s t) (hs : TrackerOk s) (hvalid : TablesValid t.tables) :
    TrackerOk t := by
  cases h with
  | refused => exact hs
  | curve l => exact acceptCurve_trackerOk l hs hvalid
  | classes l => exact hs.keep (acceptClasses_only l s).tracker (by rw [acceptClasses_tables])
  | route l => exact hs.keep (acceptRoute_only l s).tracker (by rw [acceptRoute_tables])
  | sets i ws => exact hs.of_frame (writeSets_only true i ws s)
  | numbers id first k l _ => exact acceptNums_trackerOk id first k l hs hvalid

theorem handleTableWrite_trackerOk (p : List Byte) {s : State} (ht : TablesValid s.tables) (hs : TrackerOk s) :
    TrackerOk (handleTableWrite p s).state :=
  (handleTableWrite_acts p s).trackerOk hs (handleTableWrite_tables_valid ht)

theorem handlePatchPut_trackerOk (p : List Byte) {s : State} (ht : TablesValid s.tables) (hs : TrackerOk s) :
    TrackerOk (handlePatchPut p s).state := by
  obtain ⟨u, hact, honly⟩ := handlePatchPut_acts p s
  have hvalid := handlePatchPut_tables_valid (p := p) ht
  rw [honly.tables] at hvalid
  exact (hact.trackerOk hs hvalid).of_frame honly

/-! ## LOAD (R173) -/

/-- The stored tables placed: a switch of the source, and the derived values from the stored tables. -/
theorem loadPlaced_trackerOk {s : State} (ht : TablesOk s) (hv : s.store.factoryState = .valid) (hs : TrackerOk s) :
    TrackerOk (loadPlaced s) := by
  have hplaced : TrackerOk (loadTables s) := by
    rw [trackerOk_iff, loadTables, placedStage_tables, placedStage_tracker]
    exact hs.fits.switched.derived (ht.store.contents hv) _
  exact hplaced.of_frame (loadPlaced_only s)

theorem loadPatched_trackerOk {s : State} (h : TrackerOk (loadPlaced s)) : TrackerOk (loadPatched s) := by
  refine h.keep (loadPatched_only s).tracker ?_
  rw [loadPlaced, placeFactory_tables]
  exact (patchStages_keep _ _).1

theorem finishLoad_trackerOk {s : State} (hvalid : TablesValid s.tables) (hs : TrackerOk s) : TrackerOk (finishLoad s) := by
  have hfits := hs.fits
  refine .of_tracker (finishLoad_only s) ?_
  rw [finishLoad_tracker]
  split
  · exact hfits
  · exact hfits.derived hvalid _

theorem completeLoad_trackerOk {s : State} (ht : TablesOk s) (hs : TrackerOk s) : TrackerOk (completeLoad s) := by
  by_cases hload : s.store.running = some .load
  · by_cases hv : s.store.factoryState = .valid
    · have hvalid := (completeLoad_tablesOk ht).1
      rw [completeLoad_valid hload hv, (finishLoad_only _).tables] at hvalid
      rw [completeLoad_valid hload hv]
      exact finishLoad_trackerOk hvalid (loadPatched_trackerOk (loadPlaced_trackerOk ht hv hs))
    · rw [completeLoad_invalid hload hv]
      exact finishLoad_trackerOk ht.1 (hs.of_frame (loadUnplaced_only s))
  · rw [completeLoad, if_neg hload]
    exact hs

/-! ## Every event -/

theorem effect_trackerOk (c : Instr) {s : State} (ht : TablesOk s) (hs : TrackerOk s) : TrackerOk (effect c s) := by
  have request : ∀ {kind tag lengthOk ready} {handle : State → Handled},
      (∀ u, TablesValid u.tables → TablesValid (handle u).state.tables) →
      (∀ u, TablesValid u.tables → TrackerOk u → TrackerOk (handle u).state) →
      TrackerOk (taken kind tag lengthOk ready handle s) := fun hv hh =>
    (taken_keeps (P := fun u => TablesValid u.tables ∧ TrackerOk u) (fun _ _ h => h)
      (fun u h => ⟨hv u h.1, hh u h.1 h.2⟩) ⟨ht.1, hs⟩ _ _ _ _).2
  have hf := effect_only c s
  cases c
  all_goals dsimp only [touches] at hf
  case speed p =>
    exact request (fun u h => by rwa [(handleSpeed_only p u).tables]) fun _ ht hs => handleSpeed_trackerOk ht hs p
  case tableWrite p => exact request (fun _ => handleTableWrite_tables_valid) fun _ => handleTableWrite_trackerOk p
  case patchPut p => exact request (fun _ => handlePatchPut_tables_valid) fun _ => handlePatchPut_trackerOk p
  case commitTaken => exact commitIfMarked_trackerOk ht.1 hs
  case plannerBoundary => exact (commitIfMarked_trackerOk ht.1 hs).of_frame (computePlan_only _)
  case speedTrackerBoundary => exact trackerBoundary_trackerOk ht.1 hs
  case staleTimeout => exact goStale_trackerOk ht.1 hs
  case windowEnd =>
    dsimp only [effect]
    split
    · exact endWindow_trackerOk ht.1 hs
    · exact hs
  case pulseCounted e => exact wheelPulse_trackerOk e hs
  case loadComplete => exact completeLoad_trackerOk ht hs
  all_goals exact hs.of_frame hf

/-- Settles O13, together with O6's invariant, which bounds the curve, the stale time and the divisor. -/
theorem trackerStaysInRange : Obligations.TrackerStaysInRange := by
  intro s t ht hs h
  exact step_keeps_beside_tables (P := TrackerOk) (fun _ _ h => h) (fun _ _ h => h) (fun _ _ h => h)
    (fun c _ ht hs => effect_trackerOk c ht hs) (fun s hs => hs.of_frame (pump_only s))
    (fun s hs => hs.of_frame (frameSent_only s)) (fun e s hs => hs.of_frame (enterReset_only e s))
    (fun _ _ h => h) (fun _ _ _ => reset_trackerOk) (fun _ _ _ h => h) ht hs h

end Sys2Proof
end

section
/-! SUPPORT. The equaliser's boundary: what each section becomes, and which sets its checks make SUSPECT. -/

set_option Elab.async false

namespace Sys2Proof

open Sys2Proof.Machine

/-! ## The sections (R97, R100, R103, R105, R106, R107) -/

/-- A channel's section at the boundary: its set selected, its bypass mark and history, its words. -/
def boundarySection (s : State) (c k : Nat) (e : EqSection) : EqSection := readWords s (reselect s c k e)

/-- The history is kept exactly where the bypass mark stays as it was, and the words are read exactly where the set is GOOD. -/
theorem boundarySection_eq (s : State) (c k : Nat) (e : EqSection) :
    boundarySection s c k e =
      let out := decide ((s.coeffSet (selection s c k)).state ≠ .good)
      { (if out = e.bypass then e else { e with x1 := 0, x2 := 0, y1 := 0, y2 := 0 }) with
        selected := selection s c k, bypass := out
        words := if out = true then e.words else (s.coeffSet (selection s c k)).words } := by
  unfold boundarySection reselect readWords
  dsimp only
  by_cases hgood : (s.coeffSet (selection s c k)).state = .good <;> cases hbypass : e.bypass <;> simp [hgood]

/-- The sections of every channel at the boundary, before the checks. -/
def boundarySections (s : State) : List (List EqSection) :=
  s.eq.zipIdx.map fun p => p.1.zipIdx.map fun q => boundarySection s p.2 q.2 q.1

theorem eqBoundary_checks (s : State) : eqBoundary s =
    (checkedInUse (boundarySections s)).foldl (fun s i => examine i s) (s.withEq (boundarySections s)) := rfl

theorem eqBoundary_eq (s : State) : (eqBoundary s).eq = boundarySections s := by
  have hchecks : ∀ (l : List Nat) (s : State), (l.foldl (fun s i => examine i s) s).eq = s.eq := by
    intro l
    induction l with
    | nil => exact fun _ => rfl
    | cons i l ih => exact fun s => (ih _).trans (examine_only i s).eq
  exact hchecks _ _

theorem eqBoundary_section {s : State} {c k : Nat} {e : EqSection} (h : (s.eq.getD c [])[k]? = some e) :
    ((eqBoundary s).eq.getD c [])[k]? = some (boundarySection s c k e) := by
  by_cases hc : c < s.eq.length
  · rw [eqBoundary_eq, boundarySections, getD_zipIdx_map hc _ [], List.getElem?_map, List.getElem?_zipIdx, h, Option.map_some,
      Option.map_some, Nat.zero_add]
  · rw [List.getD_eq_default _ _ (not_lt.mp hc)] at h
    cases h

/-- The sets checked in use are those that a section which is not bypassed selects (R149). -/
theorem mem_checkedInUse (eq : List (List EqSection)) (i : Nat) : i ∈ checkedInUse eq ↔
    ∃ (c k : Nat) (e : EqSection), (eq.getD c [])[k]? = some e ∧ e.bypass = false ∧ e.selected = i := by
  simp only [checkedInUse, List.mem_map, List.mem_filter, List.mem_flatten, Bool.not_eq_true']
  constructor
  · rintro ⟨e, ⟨⟨ch, hch, he⟩, hbypass⟩, hsel⟩
    obtain ⟨c, hc⟩ := List.mem_iff_getElem?.mp hch
    obtain ⟨k, hk⟩ := List.mem_iff_getElem?.mp he
    exact ⟨c, k, e, by rw [List.getD_eq_getElem?_getD, hc]; exact hk, hbypass, hsel⟩
  · rintro ⟨c, k, e, he, hbypass, hsel⟩
    have hmem := List.mem_of_getElem? he
    by_cases hc : c < eq.length
    · rw [List.getD_eq_getElem _ _ hc] at hmem
      exact ⟨e, ⟨⟨_, List.getElem_mem hc, hmem⟩, hbypass⟩, hsel⟩
    · rw [List.getD_eq_default _ _ (not_lt.mp hc)] at hmem
      cases hmem

/-! ## One failing check (R151) -/

theorem modifySet_coeffSet {s : State} {i : Nat} (h : i < s.integrity.sets.length) (f : CoeffSet → CoeffSet) (j : Nat) :
    (s.modifySet i f).coeffSet j = if j = i then f (s.coeffSet j) else s.coeffSet j := by
  change (s.integrity.sets.modify i f).getD j CoeffSet.reset = _
  rw [List.getD_eq_getElem?_getD, List.getElem?_modify, State.coeffSet, List.getD_eq_getElem?_getD]
  by_cases hj : j = i
  · subst hj
    simp [List.getElem?_eq_getElem h]
  · simp [hj, Ne.symm hj]

/-- A check of this set changes something. -/
def CheckFails (s : State) (i : Nat) : Prop := (s.coeffSet i).state = .good ∧ checkPasses (s.coeffSet i) = false

/-- Beyond the last set the model reads a set as after reset, whose check passes. -/
theorem CheckFails.lt_length {s : State} {i : Nat} (h : CheckFails s i) : i < s.integrity.sets.length := by
  by_contra hi
  have hreset : s.coeffSet i = CoeffSet.reset := List.getD_eq_default _ _ (not_lt.mp hi)
  have hpasses : checkPasses CoeffSet.reset = true := by decide
  rw [← hreset, h.2] at hpasses
  cases hpasses

theorem leaveGood_integrity (i : Nat) (s : State) : (leaveGood i s).integrity = { s.integrity with
    sets := s.integrity.sets.modify i fun e => { e with state := .suspect }
    queue := s.integrity.queue ++ [i], last := some ⟨i, .suspect, false⟩ } := by
  unfold leaveGood
  rw [recordTransition_integrity]
  split <;> rfl

theorem leaveGood_output_length (i : Nat) (s : State) : (leaveGood i s).output.length = s.output.length := by
  unfold leaveGood
  rw [(recordTransition_only _ _ _ _).output]
  split
  · exact List.length_modify _ _ _
  · rfl

/-- FAULT comes to the channel of a fixed set, and R59 shows it. -/
theorem leaveGood_outChan (i : Nat) {s : State} {c : Nat} (h : c < s.output.length) : (leaveGood i s).outChan c =
    if i < 144 ∧ i / 6 = c then ((s.outChan c).addReason .fault).show else s.outChan c := by
  unfold leaveGood
  rw [(recordTransition_only _ _ _ _).outChan]
  by_cases hfixed : i < 144
  · rw [if_pos hfixed]
    by_cases hci : i / 6 = c
    · subst hci
      rw [if_pos ⟨hfixed, rfl⟩]
      exact modifyOut_outChan_same (s := (s.modifySet i _).withIntegrity _) h _
    · rw [if_neg fun hboth => hci hboth.2]
      exact modifyOut_outChan_other hci _ _
  · rw [if_neg hfixed, if_neg fun hboth => hfixed hboth.1]
    rfl

theorem leaveGood_postsJust (i : Nat) (s : State) : PostsJust [.coeffState] s (leaveGood i s) := by
  refine (PostsJust.post .coeffState _).after ?_
  split <;> rfl

/-! ## Sets made SUSPECT one after the other (R151, R160) -/

/-- The sets `found` have become SUSPECT, one after the other: each is queued, adds FAULT for a fixed set, and is recorded and
announced (R151, R160). -/
structure MadeSuspect (found : List Nat) (s t : State) : Prop where
  queue : t.integrity.queue = s.integrity.queue ++ found
  sets (i : Nat) : t.coeffSet i = if i ∈ found then { s.coeffSet i with state := .suspect } else s.coeffSet i
  channels : t.output.length = s.output.length ∧ ∀ c, c < s.output.length → t.outChan c =
    if ∃ i ∈ found, i < 144 ∧ i / 6 = c then ((s.outChan c).addReason .fault).show else s.outChan c
  last : t.integrity.last = match found.getLast? with
    | some i => some ⟨i, .suspect, false⟩
    | none => s.integrity.last
  posts : PostsJust (if found = [] then [] else [.coeffState]) s t

theorem MadeSuspect.none (s : State) : MadeSuspect [] s s where
  queue := (List.append_nil _).symm
  sets _ := (if_neg List.not_mem_nil).symm
  channels := ⟨rfl, fun _ _ => (if_neg (by simp)).symm⟩
  last := rfl
  posts := .of_link rfl

theorem leaveGood_madeSuspect {s : State} {i : Nat} (h : i < s.integrity.sets.length) :
    MadeSuspect [i] s (leaveGood i s) where
  queue := by rw [leaveGood_integrity]
  sets j := by
    rw [State.coeffSet, leaveGood_integrity]
    simp only [List.mem_singleton]
    exact modifySet_coeffSet h _ j
  channels := by
    refine ⟨leaveGood_output_length i s, fun c hc => ?_⟩
    rw [leaveGood_outChan i hc]
    exact if_congr (by simp) rfl rfl
  last := by rw [leaveGood_integrity]; rfl
  posts := leaveGood_postsJust i s

/-- A reason that stands and is shown is added again without effect. -/
theorem addReason_show_twice (x : Reason) (o : OutChan) :
    ((o.addReason x).show.addReason x).show = (o.addReason x).show := by
  simp only [OutChan.addReason, OutChan.show, isEmpty_put_true]
  cases x <;> simp [Reasons.put]

theorem MadeSuspect.trans {a b : List Nat} {s t u : State} (h : MadeSuspect a s t) (h' : MadeSuspect b t u) :
    MadeSuspect (a ++ b) s u where
  queue := by rw [h'.queue, h.queue, List.append_assoc]
  sets i := by
    rw [h'.sets, h.sets]
    by_cases ha : i ∈ a <;> by_cases hb : i ∈ b <;> simp [ha, hb]
  channels := by
    refine ⟨h'.channels.1.trans h.channels.1, fun c hc => ?_⟩
    rw [h'.channels.2 c (hc.trans_eq h.channels.1.symm), h.channels.2 c hc]
    simp only [List.mem_append, or_and_right, exists_or]
    by_cases ha : ∃ i ∈ a, i < 144 ∧ i / 6 = c
    · rw [if_pos ha, if_pos (Or.inl ha), addReason_show_twice, ite_self]
    · rw [if_neg ha]
      exact if_congr (or_iff_right ha).symm rfl rfl
  last := by
    rw [h'.last, h.last, List.getLast?_append]
    cases b.getLast? <;> rfl
  posts := by
    have hs := h.posts
    have ht := h'.posts
    by_cases ha : a = []
    · rw [if_pos ha] at hs
      simpa [ha] using hs.trans ht fun _ _ => List.not_mem_nil
    · rw [if_neg ha] at hs
      rw [if_neg (by simp [ha])]
      exact hs.trans_again ht (by split <;> simp)

/-! ## The checks in use (R100, R149, R151) -/

theorem examine_of_fails {s : State} {i : Nat} (h : CheckFails s i) : examine i s = leaveGood i s := if_pos h

theorem examine_of_not_fails {s : State} {i : Nat} (h : ¬CheckFails s i) : examine i s = s := if_neg h

/-- Whether another set fails its check does not depend on the sets found before it. -/
theorem MadeSuspect.checkFails_iff {found : List Nat} {s t : State} (h : MadeSuspect found s t) (i : Nat) :
    CheckFails t i ↔ i ∉ found ∧ CheckFails s i := by
  unfold CheckFails
  rw [h.sets]
  by_cases hi : i ∈ found <;> simp [hi]

/-- Checks one after the other find each failing set once, at its first check. -/
theorem examine_all : ∀ (l : List Nat) (s : State), ∃ found : List Nat, found.Nodup ∧
    (∀ i, i ∈ found ↔ i ∈ l ∧ CheckFails s i) ∧ MadeSuspect found s (l.foldl (fun s i => examine i s) s)
  | [], s => ⟨[], List.nodup_nil, by simp, .none s⟩
  | i :: l, s => by
    rw [List.foldl_cons]
    by_cases hfails : CheckFails s i
    · have hfirst := leaveGood_madeSuspect hfails.lt_length
      obtain ⟨found, hnodup, hmem, hmade⟩ := examine_all l (leaveGood i s)
      simp only [hfirst.checkFails_iff, List.mem_singleton] at hmem
      rw [examine_of_fails hfails]
      refine ⟨i :: found, List.nodup_cons.mpr ⟨fun h => ((hmem i).mp h).2.1 rfl, hnodup⟩, fun j => ?_, hfirst.trans hmade⟩
      by_cases hj : j = i
      · simp [hj, hfails]
      · simp [hj, hmem]
    · obtain ⟨found, hnodup, hmem, hmade⟩ := examine_all l s
      rw [examine_of_not_fails hfails]
      refine ⟨found, hnodup, fun j => ?_, hmade⟩
      by_cases hj : j = i
      · simp [hj, hmem, hfails]
      · simp [hj, hmem]

theorem exec_eqBoundary (s : State) : exec .eqBoundary s = event eqBoundary s := rfl

/-- Settles O39: the sections section by section, the checks in the order in which they fall. -/
theorem eqBoundarySelectsAndChecks : Obligations.EqBoundarySelectsAndChecks := by
  intro s ha hshape
  obtain ⟨-, ⟨-, -, hout, -⟩, -, hsets, -⟩ := hshape
  obtain ⟨found, hnodup, hmem, hmade⟩ := examine_all (checkedInUse (boundarySections s)) (s.withEq (boundarySections s))
  rw [← eqBoundary_checks] at hmade
  obtain ⟨t, hx, honly, hsends⟩ := event_sends ha hmade.posts (by split <;> decide)
  have heq : t.eq = (eqBoundary s).eq := honly.eq
  refine ⟨t, hx, (eqBoundary_only s).comp honly, fun c k e he => ?_, found, hnodup, fun i => ?_, ?_, fun i _ => ?_,
    fun c hc => ?_, ?_, hsends⟩
  · rw [heq, eqBoundary_section he, boundarySection_eq]
    simp only [selection, Nat.add_assoc]
  · rw [heq, eqBoundary_eq, ← mem_checkedInUse, hmem]
    refine ⟨fun ⟨hin, hfails⟩ => ⟨hfails.lt_length.trans_eq hsets, hfails.1, hfails.2, hin⟩,
      fun ⟨_, hgood, hcheck, hin⟩ => ⟨hin, hgood, hcheck⟩⟩
  · rw [honly.integrity]
    exact hmade.queue
  · rw [State.coeffSet, honly.integrity]
    exact hmade.sets i
  · rw [honly.outChan]
    exact hmade.channels.2 c (hc.trans_eq hout.symm)
  · rw [honly.integrity]
    exact hmade.last

end Sys2Proof
end

section
/-! SUPPORT. Coefficient sets written by the host: one set, sets in index order, the request, and the statement on it. -/

set_option Elab.async false

namespace Sys2Proof

open Sys2Proof.Machine

/-! ## One set written (R157, R158) -/

/-- The host's marks on a set: unsaved, and written since the last SAVE FACTORY. -/
def hostMarked (e : CoeffSet) : CoeffSet := { e with unsaved := true, writtenSince := true }

/-- A set as the host writes it. -/
def hostSet (w : Words) : CoeffSet := hostMarked (placedSet w)

theorem modify_placed_marked (l : List CoeffSet) (i : Nat) (w : Words) :
    (l.modify i fun _ => placedSet w).modify i hostMarked = l.modify i fun _ => hostSet w := List.modify_modify_eq _ _ _ _

/-- The read in progress once set `i` is written: discarded where it restores this set (R158). -/
def readAfterWrite (i : Nat) (s : State) : Option ReadRec :=
  if (s.coeffSet i).state = .restoring then s.read.map fun r => if r.index = i then { r with discard := true } else r
  else s.read

theorem discardRead_eq {i : Nat} {s : State} (h : (s.coeffSet i).state = .restoring) {u : State} (hu : u.read = s.read) :
    discardRead i u = u.withRead (readAfterWrite i s) := by
  unfold discardRead readAfterWrite
  rw [if_pos h, ← hu]
  cases hread : u.read with
  | none => exact congrArg u.withRead hread
  | some r =>
    dsimp only [Option.map_some]
    split
    · rfl
    · exact congrArg u.withRead hread

section
variable {s : State} {i : Nat}

/-- The marks and the read bear on nothing that a set's return to GOOD looks at. -/
theorem returned_marked (h : i < s.integrity.sets.length) (r : Option ReadRec) :
    recordTransition i .good false (clearFault i ((s.modifySet i hostMarked).withRead r)) =
      ((recordTransition i .good false (clearFault i s)).modifySet i hostMarked).withRead r := by
  have hstate : ∀ j, (((s.modifySet i hostMarked).withRead r).coeffSet j).state = (s.coeffSet j).state := by
    intro j
    change ((s.modifySet i hostMarked).coeffSet j).state = _
    rw [modifySet_coeffSet h]
    split <;> rfl
  have hclear : clearFault i ((s.modifySet i hostMarked).withRead r) =
      ((clearFault i s).modifySet i hostMarked).withRead r := by
    unfold clearFault fixedAllGood
    simp only [hstate]
    split <;> rfl
  have hrecord : ∀ u : State, recordTransition i .good false ((u.modifySet i hostMarked).withRead r) =
      ((recordTransition i .good false u).modifySet i hostMarked).withRead r := by
    intro u
    unfold recordTransition State.post
    change (if Notice.coeffState ∈ u.link.notices then _ else _) =
      ((if Notice.coeffState ∈ u.link.notices then _ else _ : State).modifySet i hostMarked).withRead r
    split <;> rfl
  rw [hclear, hrecord]

theorem readAfterWrite_of_not_restoring (hst : (s.coeffSet i).state ≠ .restoring) : readAfterWrite i s = s.read := if_neg hst

/-- A host's write of a set that is not GOOD, as the cases of R158 leave it before FAULT is looked at. -/
theorem writeSet_host_bad (hbad : (s.coeffSet i).state ≠ .good) (w : Words) : writeSet true i w s =
    recordTransition i .good false (clearFault i ((s.withRead (readAfterWrite i s)).withIntegrity { s.integrity with
      sets := s.integrity.sets.modify i fun _ => hostSet w
      queue := if (s.coeffSet i).state = .suspect then s.integrity.queue.erase i else s.integrity.queue })) := by
  unfold writeSet
  cases hst : (s.coeffSet i).state
  case good => exact absurd hst hbad
  case suspect =>
    rw [readAfterWrite_of_not_restoring (by simp [hst])]
    rfl
  case restoring =>
    rw [leaveForGood, discardRead_eq hst (by rfl)]
    rfl
  case failed =>
    rw [readAfterWrite_of_not_restoring (by simp [hst])]
    rfl

/-- A write by the host is LOAD's placement of a set with the host's marks and with its effect on the read in progress. -/
theorem writeSet_host (h : i < s.integrity.sets.length) (w : Words) : writeSet true i w s =
    ((writeSet false i w (s.withRead none)).modifySet i hostMarked).withRead (readAfterWrite i s) := by
  by_cases hgood : (s.coeffSet i).state = .good
  · rw [writeSet_good (s := s.withRead none) hgood, readAfterWrite_of_not_restoring (by simp [hgood]), writeSet, hgood]
    simp only [leaveForGood, State.modifySet, State.withIntegrity_integrity, State.withRead_integrity, modify_placed_marked]
    rfl
  · rw [writeSet_host_bad hgood, writeSet_bad (s := s.withRead none) hgood rfl, ← returned_marked (by simpa using h)]
    simp only [State.modifySet, State.withIntegrity_integrity, State.withRead_integrity, modify_placed_marked]
    rfl

/-! What one such write leaves, from what LOAD's placement leaves. -/

theorem writeSet_host_integrity (h : i < s.integrity.sets.length) (w : Words) :
    (writeSet true i w s).integrity = { s.integrity with
      sets := s.integrity.sets.modify i fun _ => hostSet w
      queue := if (s.coeffSet i).state = .suspect then s.integrity.queue.erase i else s.integrity.queue
      last := if (s.coeffSet i).state = .good then s.integrity.last else some ⟨i, .good, false⟩ } := by
  rw [writeSet_host h, State.withRead_integrity, State.modifySet, State.withIntegrity_integrity,
    writeSet_integrity (s := s.withRead none) rfl, ← modify_placed_marked]
  rfl

theorem writeSet_host_coeffSet (h : i < s.integrity.sets.length) (w : Words) (j : Nat) :
    (writeSet true i w s).coeffSet j = if j = i then hostSet w else s.coeffSet j := by
  rw [State.coeffSet, writeSet_host_integrity h]
  exact modifySet_coeffSet h (fun _ => hostSet w) j

theorem writeSet_host_sets_length (h : i < s.integrity.sets.length) (w : Words) :
    (writeSet true i w s).integrity.sets.length = s.integrity.sets.length := by
  rw [writeSet_host_integrity h]
  exact List.length_modify _ _ _

theorem writeSet_host_output_length (h : i < s.integrity.sets.length) (w : Words) :
    (writeSet true i w s).output.length = s.output.length := by
  rw [writeSet_host h]
  exact writeSet_output_length (s := s.withRead none) rfl w

theorem writeSet_host_postsJust (h : i < s.integrity.sets.length) (w : Words) :
    PostsJust (if (s.coeffSet i).state = .good then [] else [.coeffState]) s (writeSet true i w s) := by
  rw [writeSet_host h]
  exact writeSet_postsJust (s := s.withRead none) rfl w

theorem writeSet_host_outChan (h : i < s.integrity.sets.length) (w : Words) {c : Nat} (hc : c < s.output.length) :
    (writeSet true i w s).outChan c =
      if ((s.coeffSet i).state ≠ .good ∧ i < 144 ∧ i / 6 = c) ∧ fixedAllGood (writeSet true i w s) c = true then
        (s.outChan c).removeReason .fault
      else s.outChan c := by
  have hgood : fixedAllGood (writeSet true i w s) c = fixedAllGood (writeSet false i w (s.withRead none)) c := by
    unfold fixedAllGood
    refine congrArg (List.all _) (funext fun k => ?_)
    rw [writeSet_host_coeffSet h]
    by_cases hk : i = 6 * c + k
    · rw [if_pos hk.symm, ← hk, writeSet_coeffSet_same (s := s.withRead none) h rfl]
      rfl
    · rw [if_neg (Ne.symm hk), writeSet_coeffSet_other (s := s.withRead none) hk rfl]
      rfl
  rw [hgood, writeSet_host h]
  exact writeSet_outChan (s := s.withRead none) rfl w hc

theorem writeSet_host_read (h : i < s.integrity.sets.length) (w : Words) :
    (writeSet true i w s).read = readAfterWrite i s := by
  rw [writeSet_host h, State.withRead_read]

/-- Under the queue's invariant a written set leaves the queue, and nothing else does (R152, R158). -/
theorem writeSet_host_queue (hq : QueueOk s) (h : i < s.integrity.sets.length) (w : Words) :
    (writeSet true i w s).integrity.queue = s.integrity.queue.filter fun j => j ≠ i := by
  obtain ⟨-, hnodup, hmem⟩ := hq
  rw [writeSet_host_integrity h]
  dsimp only
  split
  next =>
    rw [hnodup.erase_eq_filter]
    exact List.filter_congr fun j _ => by by_cases hj : j = i <;> simp [hj]
  next hst =>
    have hother : ∀ j ∈ s.integrity.queue, j ≠ i := fun j hj hji => hst (hji ▸ ((hmem j).mp hj).2)
    exact (List.filter_eq_self.mpr fun j hj => by simpa using hother j hj).symm

theorem writeSet_host_queueOk (hq : QueueOk s) (h : i < s.integrity.sets.length) (w : Words) :
    QueueOk (writeSet true i w s) := by
  refine ⟨(writeSet_host_sets_length h w).trans hq.1, ?_, fun j => ?_⟩
  · rw [writeSet_host_queue hq h]
    exact hq.2.1.filter _
  · rw [writeSet_host_queue hq h, writeSet_host_coeffSet h, List.mem_filter, hq.2.2]
    by_cases hj : j = i
    · simp [hj, hostSet, hostMarked, placedSet]
    · simp [hj]

/-- The sets after the written one are as bad as they were. -/
theorem notGood_writeSet_host (h : i < s.integrity.sets.length) (w : Words) (n : Nat) :
    notGood (writeSet true i w s) (i + 1) n = notGood s (i + 1) n := by
  refine List.filter_congr fun j hj => ?_
  rw [writeSet_host_coeffSet h, if_neg (by have := List.mem_range'_1.mp hj; omega)]

end

/-! ## Sets written in index order (R153, R157, R158, R160) -/

theorem mem_notGood {s : State} {i n j : Nat} : j ∈ notGood s i n ↔ (i ≤ j ∧ j < i + n) ∧ (s.coeffSet j).state ≠ .good := by
  simp [notGood, List.mem_range'_1]

theorem writeSets_host_coeffSet : ∀ (ws : List Words) {i : Nat} {s : State}, i + ws.length ≤ s.integrity.sets.length →
    ∀ j, (writeSets true i ws s).coeffSet j =
      if i ≤ j ∧ j < i + ws.length then hostSet (ws.getD (j - i) passThrough) else s.coeffSet j
  | [], i, s, _, j => (if_neg (by simp)).symm
  | w :: ws, i, s, h, j => by
    rw [List.length_cons] at h
    have hi : i < s.integrity.sets.length := by omega
    rw [writeSets, writeSets_host_coeffSet ws (by rw [writeSet_host_sets_length hi]; omega), writeSet_host_coeffSet hi,
      List.length_cons]
    by_cases hj : j = i
    · subst hj
      simp
    · by_cases hin : i + 1 ≤ j ∧ j < i + 1 + ws.length
      · obtain ⟨k, rfl⟩ := Nat.exists_eq_add_of_le hin.1
        rw [if_pos hin, if_pos (by omega), show i + 1 + k - i = k + 1 by omega, Nat.add_sub_cancel_left,
          List.getD_cons_succ]
      · rw [if_neg hin, if_neg hj, if_neg (by omega)]

/-- The written sets leave the queue, and the last record is the last transition's. -/
theorem writeSets_host_integrity : ∀ (ws : List Words) {i : Nat} {s : State}, QueueOk s → i + ws.length ≤ 344 →
    let n := (writeSets true i ws s).integrity
    n = { s.integrity with
      sets := n.sets, queue := s.integrity.queue.filter fun j => ¬(i ≤ j ∧ j < i + ws.length)
      last := ((notGood s i ws.length).getLast?.map fun j => ⟨j, .good, false⟩).or s.integrity.last }
  | [], i, s, _, _ => by simp [writeSets, notGood]
  | w :: ws, i, s, hq, h => by
    rw [List.length_cons] at h
    have hi : i < s.integrity.sets.length := by have := hq.1; omega
    have hrest := writeSets_host_integrity ws (writeSet_host_queueOk hq hi w) (by omega : i + 1 + ws.length ≤ 344)
    have hqueue : ∀ j, (decide ¬(i + 1 ≤ j ∧ j < i + 1 + ws.length) && decide (j ≠ i)) =
        decide ¬(i ≤ j ∧ j < i + (ws.length + 1)) := by
      intro j
      rw [← Bool.decide_and, decide_eq_decide]
      omega
    dsimp only at hrest ⊢
    rw [writeSets, hrest, notGood_writeSet_host hi, writeSet_host_queue hq hi, List.filter_filter, List.length_cons,
      notGood_succ, writeSet_host_integrity hi]
    simp only [hqueue]
    by_cases hgood : (s.coeffSet i).state = .good
    · simp [hgood]
    · cases hl : (notGood s (i + 1) ws.length).getLast? <;> simp [hgood, hl, List.getLast?_cons]

theorem writeSets_host_postsJust : ∀ (ws : List Words) {i : Nat} {s : State}, i + ws.length ≤ s.integrity.sets.length →
    PostsJust (if notGood s i ws.length = [] then [] else [.coeffState]) s (writeSets true i ws s)
  | [], _, _, _ => .of_link rfl
  | w :: ws, i, s, h => by
    rw [List.length_cons] at h
    have hi : i < s.integrity.sets.length := by omega
    have hstep := writeSet_host_postsJust hi w
    have hrest := writeSets_host_postsJust ws (i := i + 1) (s := writeSet true i w s)
      (by rw [writeSet_host_sets_length hi]; omega)
    rw [notGood_writeSet_host hi] at hrest
    rw [writeSets, List.length_cons, notGood_succ]
    by_cases hgood : (s.coeffSet i).state = .good
    · rw [if_pos hgood] at hstep ⊢
      exact hstep.trans hrest fun n _ => List.not_mem_nil
    · rw [if_neg hgood] at hstep
      rw [if_neg hgood, if_neg (by simp)]
      exact hstep.trans_again hrest (by split <;> simp)

/-- A read in progress is discarded where its set is RESTORING and among the written ones (R158). -/
theorem writeSets_host_read : ∀ (ws : List Words) {i : Nat} {s : State}, i + ws.length ≤ s.integrity.sets.length →
    (writeSets true i ws s).read = s.read.map fun r =>
      if r.index ∈ notGood s i ws.length ∧ (s.coeffSet r.index).state = .restoring then { r with discard := true } else r
  | [], i, s, _ => by simp [writeSets, notGood]
  | w :: ws, i, s, h => by
    rw [List.length_cons] at h
    have hi : i < s.integrity.sets.length := by omega
    rw [writeSets, writeSets_host_read ws (by rw [writeSet_host_sets_length hi]; omega), writeSet_host_read hi,
      notGood_writeSet_host hi, List.length_cons]
    unfold readAfterWrite
    cases hread : s.read with
    | none => simp
    | some r =>
      by_cases hr : r.index = i
      · subst hr
        by_cases hst : (s.coeffSet r.index).state = .restoring <;> simp [mem_notGood, hst]
      · simp [writeSet_host_coeffSet hi, notGood_succ, hr]

/-- A bad set among a channel's fixed sets. -/
theorem fixedBad_of_bad {s : State} {j c : Nat} (hbad : (s.coeffSet j).state ≠ .good) (hj : j / 6 = c) : FixedBad s c := by
  refine ⟨j % 6, List.mem_range.mpr (Nat.mod_lt _ (by decide)), ?_⟩
  rwa [show 6 * c + j % 6 = j by omega]

/-- A write of sets that were GOOD in this channel leaves the channel's fixed sets as bad as they were. -/
theorem fixedBad_writeSets_host {ws : List Words} {i : Nat} {s : State} (h : i + ws.length ≤ s.integrity.sets.length)
    {c : Nat} (hc : c < 24) (hnone : ¬∃ j ∈ notGood s i ws.length, j < 144 ∧ j / 6 = c) :
    FixedBad (writeSets true i ws s) c ↔ FixedBad s c := by
  refine exists_congr fun k => and_congr_right fun hk => not_congr ?_
  have hk6 := List.mem_range.mp hk
  rw [writeSets_host_coeffSet ws h]
  split
  next hin =>
    have hgood : (s.coeffSet (6 * c + k)).state = .good := by
      by_contra hbad
      exact hnone ⟨6 * c + k, mem_notGood.mpr ⟨hin, hbad⟩, by omega, by omega⟩
    exact iff_of_true rfl hgood
  next => exact Iff.rfl

/-- FAULT leaves a channel with the last of its bad fixed sets, if that makes all six GOOD (R153). -/
theorem writeSets_host_outChan : ∀ (ws : List Words) {i : Nat} {s : State}, i + ws.length ≤ s.integrity.sets.length →
    s.output.length = 24 → ∀ {c : Nat}, c < 24 → (writeSets true i ws s).outChan c =
      if (∃ j ∈ notGood s i ws.length, j < 144 ∧ j / 6 = c) ∧ fixedAllGood (writeSets true i ws s) c = true then
        (s.outChan c).removeReason .fault
      else s.outChan c
  | [], i, s, _, _, c, _ => by simp [writeSets, notGood]
  | w :: ws, i, s, h, hout, c, hc => by
    rw [List.length_cons] at h
    have hi : i < s.integrity.sets.length := by omega
    have hlen : i + 1 + ws.length ≤ (writeSet true i w s).integrity.sets.length := by
      rw [writeSet_host_sets_length hi]
      omega
    have hrest := writeSets_host_outChan ws hlen ((writeSet_host_output_length hi w).trans hout) hc
    have hsame := fixedBad_writeSets_host hlen hc
    have hmem : (∃ j ∈ notGood s i (ws.length + 1), j < 144 ∧ j / 6 = c) ↔
        ((s.coeffSet i).state ≠ .good ∧ i < 144 ∧ i / 6 = c) ∨ ∃ j ∈ notGood s (i + 1) ws.length, j < 144 ∧ j / 6 = c := by
      rw [notGood_succ]
      by_cases hgood : (s.coeffSet i).state = .good <;> simp [hgood]
    rw [writeSet_host_outChan hi w (hc.trans_eq hout.symm)] at hrest
    rw [writeSets, List.length_cons, hrest]
    rw [notGood_writeSet_host hi] at hsame ⊢
    by_cases hlater : ∃ j ∈ notGood s (i + 1) ws.length, j < 144 ∧ j / 6 = c
    · obtain ⟨j, hj, -, hjc⟩ := id hlater
      have hbad : FixedBad (writeSet true i w s) c :=
        fixedBad_of_bad (mem_notGood.mp (notGood_writeSet_host hi w _ ▸ hj)).2 hjc
      rw [if_neg (c := _ ∧ fixedAllGood (writeSet true i w s) c = true) fun hboth => (fixedAllGood_iff _ c).mp hboth.2 hbad]
      exact if_congr (and_congr_left' (iff_of_true hlater (hmem.mpr (.inr hlater)))) rfl rfl
    · rw [if_neg fun hboth => hlater hboth.1]
      refine if_congr (and_congr (hmem.trans (or_iff_left hlater)).symm ?_) rfl rfl
      rw [fixedAllGood_iff, fixedAllGood_iff, hsame hlater]

/-! ## The request (R101, R187, R190) -/

theorem word24_extract (c : Word24) : word24 (c.extractLsb' 16 8) (c.extractLsb' 8 8) (c.extractLsb' 0 8) = c := by
  unfold word24
  rw [BitVec.extractLsb'_append_extractLsb'_eq_extractLsb' (by decide),
    BitVec.extractLsb'_append_extractLsb'_eq_extractLsb' (by decide)]
  exact BitVec.extractLsb'_eq_self

/-- Fifteen bytes carry the five words that they were made from. -/
theorem wordsOfBytes_wordsBytes (w : Words) : wordsOfBytes (wordsBytes w) = w := by
  simp only [wordsBytes, List.flatMap_cons, List.flatMap_nil, List.cons_append, List.nil_append, wordsOfBytes,
    word24_extract]

theorem wordsBytes_length (w : Words) : (wordsBytes w).length = 15 := rfl

/-- The coefficient tables lie among the 344 sets, and their entries are sets of words (R95, R186). -/
theorem firstSet_entries {id : TableId} {base : Nat} (h : id.firstSet = some base) :
    id.entryBytes = 15 ∧ base + id.entries ≤ 344 := by
  cases id <;> cases h <;> decide

theorem writeEntries_sets {id : TableId} {base : Nat} (h : id.firstSet = some base) (first : Nat) (ws : List Words) (s : State) :
    writeEntries id first (ws.map wordsBytes) s =
      accepted (ws.all stable) .unstable s (writeSets true (base + first) ws s) := by
  have hws : (ws.map wordsBytes).map wordsOfBytes = ws := by
    simp [Function.comp_def, wordsOfBytes_wordsBytes]
  cases id <;> cases h <;> simp only [writeEntries, hws] <;> rfl

theorem exec_tableWrite_sets {tag code hi lo : Byte} {id : TableId} {base : Nat} {ws : List Words}
    (hcode : TableId.ofCode code.toNat = some id) (hbase : id.firstSet = some base) (hne : ws ≠ []) (hmax : ws.length ≤ 16)
    (hr : u16 hi lo + ws.length ≤ id.entries) (s : State) :
    exec (.tableWrite tag (code :: hi :: lo :: ws.flatMap wordsBytes)) s =
        request 0x07 tag true true (handleTableWrite (code :: hi :: lo :: (ws.map wordsBytes).flatten)) s ∧
      handleTableWrite (code :: hi :: lo :: (ws.map wordsBytes).flatten) (frameTaken s) =
        accepted (ws.all stable) .unstable (frameTaken s) (writeSets true (base + u16 hi lo) ws (frameTaken s)) := by
  have hne' : ws.map wordsBytes ≠ [] := fun e => hne (List.map_eq_nil_iff.mp e)
  have hsize : ∀ e ∈ ws.map wordsBytes, e.length = 15 := by
    intro e he
    obtain ⟨w, -, rfl⟩ := List.mem_map.mp he
    exact wordsBytes_length w
  have hbytes := (firstSet_entries hbase).1
  refine ⟨?_, ?_⟩
  · rw [List.flatMap_def, exec_tableWrite (tableWrite_length (by decide) hne' hsize (by rw [List.length_map]; omega))]
  · rw [handleTableWrite_entries hcode hne' (hbytes ▸ hsize) (by rwa [List.length_map]), writeEntries_sets hbase]

/-- The sets that a write mends, among all sets. -/
theorem mended_eq_notGood (s : State) {first n : Nat} (h : first + n ≤ 344) :
    ((List.range 344).filter fun i => (first ≤ i ∧ i < first + n) ∧ (s.coeffSet i).state ≠ .good) = notGood s first n := by
  refine (List.pairwise_lt_range.filter _).eq_of_mem_iff ((List.pairwise_lt_range' 1).filter _) fun j => ?_
  rw [List.mem_filter, mem_notGood, List.mem_range, decide_eq_true_eq]
  exact and_iff_right_of_imp fun hj => hj.1.2.trans_le h

/-- Settles O48: refused by the stability check, or the sets written in index order. -/
theorem coefficientWriteMakesGood : Obligations.CoefficientWriteMakesGood := by
  intro tag code hi lo id base ws s h hshape hq _ hcode hbase hne hmax hr first written mended
  obtain ⟨hexec, hhandle⟩ := exec_tableWrite_sets hcode hbase hne hmax hr s (tag := tag)
  change _ = accepted _ _ _ (writeSets true first ws _) at hhandle
  have hfirst : first + ws.length ≤ 344 := by
    have := (firstSet_entries hbase).2
    omega
  have hmended : mended = notGood s first ws.length := mended_eq_notGood s hfirst
  have hsets : first + ws.length ≤ (frameTaken s).integrity.sets.length := hfirst.trans_eq hq.1.symm
  have hstable : (ws.all stable = true) ↔
      ∀ w ∈ ws, w.a2.toInt.natAbs < 4194304 ∧ (w.a1.toInt.natAbs : Int) < 4194304 + w.a2.toInt := by
    simp only [List.all_eq_true, stable_iff]
  rw [hexec]
  by_cases hok : ws.all stable = true
  · rw [accepted_of_true hok] at hhandle
    obtain ⟨t, hx, ho, hreply⟩ := request_done h (kind := 0x07) (tag := tag) (ready := true) hhandle
      (writeSets_host_postsJust ws hsets) (by split <;> decide)
    refine ⟨t, hx, ?_⟩
    rw [if_pos (hstable.mp hok), hmended]
    have hint := writeSets_host_integrity ws (s := frameTaken s) hq hfirst
    have hout : s.output.length = 24 := hshape.block .output
    have honly := (frameTaken_only s).comp (writeSets_only true first ws (frameTaken s)) (n := [.integrity, .output, .read, .link])
    refine ⟨honly.comp ho, fun i _ => ?_, ?_, ho.read.trans (writeSets_host_read ws hsets), fun c hc => ?_, hreply⟩
    · rw [State.coeffSet, ho.integrity]
      exact writeSets_host_coeffSet ws hsets i
    · rw [ho.integrity]
      refine hint.trans ?_
      rw [map_or_eq_match]
      rfl
    · rw [ho.outChan]
      refine (writeSets_host_outChan ws hsets hout hc).trans (if_congr (and_congr_right' ?_) rfl rfl)
      rw [fixedAllGood_congr (congrArg Integrity.sets ho.integrity.symm)]
      simp only [fixedAllGood, List.all_eq_true, decide_eq_true_eq]
  · rw [accepted_of_false (Bool.eq_false_iff.mpr hok)] at hhandle
    obtain ⟨t, hx, href⟩ := request_refused h (kind := 0x07) (tag := tag) (ready := true) hhandle
    exact ⟨t, hx, by rw [if_neg (hok ∘ hstable.mpr)]; exact href⟩

end Sys2Proof
end

section
/-! SUPPORT. Arbitration at rest: what it means that nothing is left to do, that arbitration ends there, and the statement on
its end. -/

set_option Elab.async false

namespace Sys2Proof

open Sys2Proof.Machine

/-! ## Classes that wait above a level (R121) -/

/-- Among elements ordered from high to low, the one after the first `d` lies above a bound exactly where more than `d` do. -/
theorem drop_head_le_iff {α : Type} {f : α → Nat} {bound : Nat} : ∀ {l : List α} {d : Nat},
    l.Pairwise (fun x y => f y ≤ f x) →
      ((∀ p, (l.drop d).head? = some p → f p ≤ bound) ↔ (l.countP fun x => bound < f x) ≤ d)
  | [], _, _ => by simp
  | x :: l, d, h => by
    obtain ⟨hx, hl⟩ := List.pairwise_cons.mp h
    have hnone : f x ≤ bound → (l.countP fun x => bound < f x) = 0 := fun hle =>
      List.countP_eq_zero.mpr fun y hy => by simpa using (hx y hy).trans hle
    rw [List.countP_cons]
    cases d with
    | zero =>
      by_cases hle : f x ≤ bound
      · simp [hle, hnone hle, not_lt.mpr hle]
      · simp [hle, not_le.mp hle]
    | succ d =>
      rw [List.drop_succ_cons, drop_head_le_iff hl]
      by_cases hle : f x ≤ bound
      · simp [hnone hle, not_lt.mpr hle]
      · simp [not_le.mp hle]

/-- How many PENDING classes have a level above a given one. -/
def pendingAbove (t : Tables) (a : Arbiter) (level : Nat) : Nat :=
  AnnClass.all.countP fun p => a.isPending p && decide (level < (t.classEntry p).level)

theorem rankOrder_perm (t : Tables) : (rankOrder t).Perm AnnClass.all := by
  simpa [rankOrder] using (foldl_insertRanked (t := t) AnnClass.all [] (by decide) .nil).2

section
variable {t : Tables} {a b : Arbiter} {j k : AnnClass} {slot : Slot}

theorem pendingRanked_sorted (t : Tables) (a : Arbiter) : (pendingRanked t a).Pairwise (Outranks t) :=
  (rankOrder_sorted t).filter _

theorem countP_pendingRanked (t : Tables) (a : Arbiter) (q : AnnClass → Bool) :
    (pendingRanked t a).countP q = AnnClass.all.countP fun p => a.isPending p && q p := by
  rw [pendingRanked, List.countP_filter, (rankOrder_perm t).countP_eq]
  exact List.countP_congr fun p _ => by rw [Bool.and_comm]

theorem pendingAbove_eq (t : Tables) (a : Arbiter) (level : Nat) :
    pendingAbove t a level = (pendingRanked t a).countP fun p => level < (t.classEntry p).level :=
  (countP_pendingRanked t a _).symm

/-- Where no slot is FREE, there is no victim exactly if no more classes wait above an ACTIVE class than slots drain (R121). -/
theorem victim_eq_none_iff_pendingAbove : victim t a = none ↔ (a.freeSlot = none → ∀ j, (a.slotOf j).isSome = true →
    pendingAbove t a (t.classEntry j).level ≤ a.draining) := by
  have hsorted := (pendingRanked_sorted t a).imp fun h => h.level_le
  rw [victim_eq_none_iff]
  simp only [pendingAbove_eq, ← drop_head_le_iff hsorted]
  exact ⟨fun h hfree j hj p hp => h hfree p hp j hj, fun h hfree p hp j hj => h hfree j hj p hp⟩

theorem pendingAbove_mono {level : Nat} (h : ∀ p, (b.classes.get p).state = .pending → level < (t.classEntry p).level →
    (a.classes.get p).state = .pending) : pendingAbove t b level ≤ pendingAbove t a level := by
  refine List.countP_mono_left fun p _ hp => ?_
  rw [Bool.and_eq_true, isPending_iff, decide_eq_true_iff] at hp ⊢
  exact ⟨h p hp.1 hp.2, hp.2⟩

/-! ## Records that match (R113) -/

theorem SlotsMatch.slot_of_class (h : SlotsMatch a) (hk : a.slotOf k = some slot) : a.slots.get slot = .active k :=
  (h k slot).mp ((slotOf_eq_some_iff a k slot).mp hk)

/-- A PENDING class takes a FREE slot. -/
theorem SlotsMatch.grant (h : SlotsMatch a) (hk : (a.classes.get k).state = .pending) (hslot : a.slots.get slot = .free) :
    SlotsMatch (a.grant k slot) := by
  intro j x
  rw [grant_class, grant_slot]
  by_cases hj : j = k
  · by_cases hx : x = slot
    · simp [hj, hx]
    · have hother : a.slots.get x ≠ .active k := fun e => by simp [(h k x).mpr e] at hk
      simp [hj, hx, hother, Ne.symm hx]
  · by_cases hx : x = slot
    · have hother : (a.classes.get j).state ≠ .active slot := fun e => by simp [(h j slot).mp e] at hslot
      simp [hj, hx, hother, Ne.symm hj]
    · simpa [hj, hx] using h j x

/-- The arbiter after an ACTIVE class has left its slot, which drains. -/
def leaveSlot (a : Arbiter) (k : AnnClass) (slot : Slot) (r : ClassRec) : Arbiter :=
  (a.putClass k r).putSlot slot .draining

theorem putClass_class (a : Arbiter) (k : AnnClass) (r : ClassRec) (j : AnnClass) :
    (a.putClass k r).classes.get j = if j = k then r else a.classes.get j := by
  split
  · subst j
    exact class_get_put_same _ _ _
  · exact class_get_put_other _ ‹_› _

theorem putSlot_slot (a : Arbiter) (slot : Slot) (r : SlotRec) (x : Slot) :
    (a.putSlot slot r).slots.get x = if x = slot then r else a.slots.get x := by
  split
  · subst x
    exact slot_get_put_same _ _ _
  · exact slot_get_put_other _ ‹_› _

theorem leaveSlot_class (a : Arbiter) (k : AnnClass) (slot : Slot) (r : ClassRec) (j : AnnClass) :
    (leaveSlot a k slot r).classes.get j = if j = k then r else a.classes.get j := putClass_class a k r j

theorem leaveSlot_slot (a : Arbiter) (k : AnnClass) (slot : Slot) (r : ClassRec) (x : Slot) :
    (leaveSlot a k slot r).slots.get x = if x = slot then .draining else a.slots.get x := putSlot_slot _ slot _ x

theorem SlotsMatch.leaveSlot {r : ClassRec} (h : SlotsMatch a) (hk : a.slotOf k = some slot) (hr : ∀ x, r.state ≠ .active x) :
    SlotsMatch (leaveSlot a k slot r) := by
  have hslot := h.slot_of_class hk
  rw [slotOf_eq_some_iff] at hk
  intro j x
  rw [leaveSlot_class, leaveSlot_slot]
  by_cases hj : j = k
  · by_cases hx : x = slot
    · simp [hj, hx, hr]
    · have hother : a.slots.get x ≠ .active k := fun e => hx (by simpa [hk, eq_comm] using (h k x).mpr e)
      simp [hj, hx, hother, hr]
  · by_cases hx : x = slot
    · have hother : (a.classes.get j).state ≠ .active slot := fun e => hj (by simpa [hslot, eq_comm] using (h j slot).mp e)
      simp [hj, hx, hother]
    · simpa [hj, hx] using h j x

/-- A record replaced by one that is ACTIVE in the same slot or, as before, in none. -/
theorem SlotsMatch.putClass {r : ClassRec} (h : SlotsMatch a)
    (hr : ∀ x, r.state = .active x ↔ (a.classes.get k).state = .active x) : SlotsMatch (a.putClass k r) := by
  intro j x
  rw [putClass_class]
  split
  · subst j
    exact (hr x).trans (h k x)
  · exact h j x

/-- A slot that no class holds changes to another such state. -/
theorem SlotsMatch.putSlot {r : SlotRec} (h : SlotsMatch a) (hold : ∀ j, a.slots.get slot ≠ .active j)
    (hr : ∀ j, r ≠ .active j) : SlotsMatch (a.putSlot slot r) := by
  intro j x
  rw [putSlot_slot]
  split
  · subst x
    exact iff_of_false (fun e => hold j ((h j slot).mp e)) (hr j)
  · exact h j x

/-! ## Grants (R120) -/

theorem slotsMatch_grantOne (h : SlotsMatch a) : SlotsMatch (grantOne t a) := by
  cases hfree : a.freeSlot with
  | none => rwa [grantOne_of_none (.inl hfree)]
  | some slot =>
    cases hp : pendingRanked t a with
    | nil => rwa [grantOne_of_none (.inr hp)]
    | cons k rest =>
      rw [grantOne_of_some hfree hp]
      exact h.grant (mem_pendingRanked.mp (hp ▸ List.mem_cons_self)) (freeSlot_free hfree)

theorem slotsMatch_grantAll (h : SlotsMatch a) : SlotsMatch (grantAll t a) := slotsMatch_grantOne (slotsMatch_grantOne h)

theorem grantAll_of_none (h : a.freeSlot = none ∨ pendingRanked t a = []) : grantAll t a = a := by
  rw [grantAll, grantOne_of_none h, grantOne_of_none h]

theorem slot_eq_or_eq {x y : Slot} (h : x ≠ y) (z : Slot) : z = x ∨ z = y := by
  cases x <;> cases y <;> cases z <;> simp at h ⊢

/-- There are two slots, and each grant takes one: after both grant steps none is FREE or none waits. -/
theorem grantAll_done (t : Tables) (a : Arbiter) : (grantAll t a).freeSlot = none ∨ pendingRanked t (grantAll t a) = [] := by
  have hone : ∀ {b : Arbiter} {slot}, b.freeSlot = some slot → pendingRanked t b ≠ [] →
      b.slots.get slot = .free ∧ (grantOne t b).slots.get slot ≠ .free := by
    intro b slot hfree hp
    obtain ⟨k, rest, hp⟩ := List.exists_cons_of_ne_nil hp
    rw [grantOne_of_some hfree hp, grant_slot, if_pos rfl]
    exact ⟨freeSlot_free hfree, nofun⟩
  by_cases ha : a.freeSlot = none ∨ pendingRanked t a = []
  · rwa [grantAll_of_none ha]
  by_cases hb : (grantOne t a).freeSlot = none ∨ pendingRanked t (grantOne t a) = []
  · rwa [grantAll, grantOne_of_none hb]
  obtain ⟨hfree, hp⟩ := not_or.mp ha
  obtain ⟨hfree', hp'⟩ := not_or.mp hb
  obtain ⟨x, hx⟩ := Option.ne_none_iff_exists'.mp hfree
  obtain ⟨y, hy⟩ := Option.ne_none_iff_exists'.mp hfree'
  obtain ⟨-, hx⟩ := hone hx hp
  obtain ⟨hyfree, hy⟩ := hone hy hp'
  refine .inl (freeSlot_eq_none_iff.mpr fun z => ?_)
  obtain rfl | rfl := slot_eq_or_eq (x := x) (y := y) (fun e => hx (e ▸ hyfree)) z
  · rwa [grantAll, grantOne_slot hx]
  · exact hy

/-! ## DRAINING slots (R121) -/

theorem draining_le_two (a : Arbiter) : a.draining ≤ 2 := by
  unfold Arbiter.draining
  split_ifs <;> decide

theorem draining_mono (h : ∀ x, a.slots.get x = .draining → b.slots.get x = .draining) : a.draining ≤ b.draining := by
  have h1 : a.slots.slot1 = .draining → b.slots.slot1 = .draining := h .slot1
  have h2 : a.slots.slot2 = .draining → b.slots.slot2 = .draining := h .slot2
  unfold Arbiter.draining
  split_ifs <;> simp_all

theorem draining_leaveSlot (h : a.slots.get slot ≠ .draining) (k : AnnClass) (r : ClassRec) :
    (leaveSlot a k slot r).draining = a.draining + 1 := by
  cases slot with
  | slot1 =>
    have h1 : a.slots.slot1 ≠ .draining := h
    by_cases h2 : a.slots.slot2 = .draining <;>
      simp [Arbiter.draining, leaveSlot, Arbiter.putSlot, Arbiter.putClass, PerSlot.put, h1, h2]
  | slot2 =>
    have h2 : a.slots.slot2 ≠ .draining := h
    by_cases h1 : a.slots.slot1 = .draining <;>
      simp [Arbiter.draining, leaveSlot, Arbiter.putSlot, Arbiter.putClass, PerSlot.put, h1, h2]

theorem draining_grantAll (t : Tables) (a : Arbiter) : a.draining ≤ (grantAll t a).draining :=
  draining_mono fun x hx => by rw [grantAll_slot (by rw [hx]; exact nofun), hx]

/-! ## Nothing left to do (R119) -/

/-- The records match, no class waits at a FREE slot, and no more classes wait above an ACTIVE class than slots drain. -/
structure AtRest (t : Tables) (a : Arbiter) : Prop where
  slots : SlotsMatch a
  waits : NoneWaitsAtFreeSlot a
  levels : ∀ j slot, (a.classes.get j).state = .active slot → pendingAbove t a (t.classEntry j).level ≤ a.draining

theorem noneWaitsAtFreeSlot_iff : NoneWaitsAtFreeSlot a ↔ a.freeSlot = none ∨ pendingRanked t a = [] := by
  rw [freeSlot_eq_none_iff, List.eq_nil_iff_forall_not_mem, or_comm, or_iff_not_imp_left]
  simp only [mem_pendingRanked, not_forall, not_not]
  rfl

theorem slotOf_isSome_iff (a : Arbiter) (j : AnnClass) :
    (a.slotOf j).isSome = true ↔ ∃ slot, (a.classes.get j).state = .active slot := by
  simp only [Option.isSome_iff_exists, slotOf_eq_some_iff]

theorem atRest_iff : AtRest t a ↔
    SlotsMatch a ∧ (a.freeSlot = none ∨ pendingRanked t a = []) ∧ victim t a = none := by
  rw [victim_eq_none_iff_pendingAbove, ← noneWaitsAtFreeSlot_iff]
  constructor
  · rintro ⟨hmatch, hwaits, hlevels⟩
    refine ⟨hmatch, hwaits, fun _ j hj => ?_⟩
    obtain ⟨slot, hj⟩ := (slotOf_isSome_iff a j).mp hj
    exact hlevels j slot hj
  · rintro ⟨hmatch, hwaits, hlevels⟩
    refine ⟨hmatch, hwaits, fun j slot hj => ?_⟩
    obtain hfree | hp := (noneWaitsAtFreeSlot_iff (t := t)).mp hwaits
    · exact hlevels hfree j ((slotOf_isSome_iff a j).mpr ⟨slot, hj⟩)
    · rw [pendingAbove_eq, hp]
      exact Nat.zero_le _

/-- At rest is what an arbitration leaves as it is. -/
theorem atRest_iff_arbitrated : AtRest t a ↔ SlotsMatch a ∧ arbitrated t a = a := by
  rw [atRest_iff]
  constructor
  · rintro ⟨hmatch, hdone, hvictim⟩
    have hgrants := grantAll_of_none hdone
    exact ⟨hmatch, by rw [arbitrated_of_victim_none (by rwa [hgrants]), hgrants]⟩
  · rintro ⟨hmatch, hsettled⟩
    exact ⟨hmatch, no_free_or_no_pending_of_settled hsettled, victim_of_settled hmatch hsettled⟩

theorem settled_iff (s : State) : Settled s ↔ AtRest s.tables s.arbiter := atRest_iff_arbitrated.symm

/-! ## Arbitration ends at rest (R119) -/

/-- The record of a victim: PENDING again, or IDLE (R122). -/
def preemptedRec (t : Tables) (k : AnnClass) (r : ClassRec) : ClassRec :=
  if (t.classEntry k).resume = true then { r with state := .pending } else { r with state := .idle, lastEnd := .preempted }

theorem preempt_eq (t : Tables) (a : Arbiter) (k : AnnClass) (slot : Slot) :
    preempt t a k slot = leaveSlot a k slot (preemptedRec t k (a.classes.get k)) := rfl

theorem preemptedRec_not_active (t : Tables) (k : AnnClass) (r : ClassRec) (x : Slot) :
    (preemptedRec t k r).state ≠ .active x := by
  unfold preemptedRec
  split <;> exact nofun

/-- Each round but the last leaves one DRAINING slot more, and there are two slots. -/
theorem arbitrateRounds_atRest : ∀ (n : Nat) {a : Arbiter}, SlotsMatch a → 2 < n + a.draining →
    AtRest t (arbitrateRounds t n a)
  | 0, a, _, hn => absurd (draining_le_two a) (by omega)
  | n + 1, a, h, hn => by
    have hgranted : SlotsMatch (grantAll t a) := slotsMatch_grantAll h
    rw [arbitrateRounds]
    cases hvictim : victim t (grantAll t a) with
    | none => exact atRest_iff.mpr ⟨hgranted, grantAll_done t a, hvictim⟩
    | some lost =>
      obtain ⟨k, slot⟩ := lost
      have hk := victim_slotOf hvictim
      have hactive := hgranted.slot_of_class hk
      have hgrants := draining_grantAll t a
      dsimp only
      rw [preempt_eq]
      refine arbitrateRounds_atRest n (hgranted.leaveSlot hk (preemptedRec_not_active t k _)) ?_
      rw [draining_leaveSlot (by rw [hactive]; exact nofun)]
      omega

theorem arbitrated_atRest (h : SlotsMatch a) : AtRest t (arbitrated t a) := arbitrateRounds_atRest 4 h (by omega)

end

/-- Settles O31: arbitration ends at rest, and at rest it does nothing. -/
theorem arbitrationEnds : Obligations.ArbitrationEnds := by
  intro t a h
  have hrest : AtRest t (arbitrated t a) := arbitrated_atRest h
  exact ⟨hrest.slots, hrest.waits, (atRest_iff_arbitrated.mp hrest).2⟩

end Sys2Proof
end

section
/-! SUPPORT. ANN_END, and the boundary of the arbiter: classes that leave their slots one after the other. -/

set_option Elab.async false

namespace Sys2Proof

open Sys2Proof.Machine

/-! ## Requests of the arbiter -/

/-- A request whose owner answers OK and touches the arbiter alone. -/
theorem request_arbiter {s u : State} (h : Handles s) {kind tag : Byte} {handle : State → Handled} {ns : List Notice}
    (hu : handle (frameTaken s) = Handled.done u) (ho : Only [.arbiter, .link] (frameTaken s) u)
    (hns : PostsJust ns (frameTaken s) u) (hc : Notice.clip ∉ ns) :
    ∃ t, request kind tag true true handle s = .next t ∧ Only [.arbiter, .link, .draws] s t ∧ t.arbiter = u.arbiter ∧
      Replies s t kind tag .ok [] ns := by
  obtain ⟨t, hx, hout, hreplies⟩ := request_done h (kind := kind) (tag := tag) (ready := true) hu hns hc
  exact ⟨t, hx, ((frameTaken_only s).comp ho (n := [.arbiter, .link])).comp hout, hout.arbiter, hreplies⟩

theorem postArbiter_postsJust (b : Arbiter) (s : State) : PostsJust [.annState] s ((s.withArbiter b).post .annState) :=
  (PostsJust.post .annState (s.withArbiter b)).after rfl

theorem postArbiter_only (b : Arbiter) (s : State) : Only [.arbiter, .link] s ((s.withArbiter b).post .annState) :=
  (withArbiter_only s b).comp (post_only _ _)

theorem postArbiter_arbiter (b : Arbiter) (s : State) : ((s.withArbiter b).post .annState).arbiter = b :=
  (post_only _ _).arbiter

/-! ## ANN_END (R124) -/

section
variable {s : State} {code : Byte} {k : AnnClass}

theorem handleAnnEnd_badId (h : AnnClass.ofCode code.toNat = none) (s : State) :
    handleAnnEnd [code] s = Handled.refuse s .badId := by simp only [handleAnnEnd, h]

theorem handleAnnEnd_class (h : AnnClass.ofCode code.toNat = some k) (s : State) :
    handleAnnEnd [code] s = endClass k s := by simp only [handleAnnEnd, h]

theorem endClass_active {slot : Slot} (h : (s.arbiter.classes.get k).state = .active slot) :
    endClass k s = Handled.done ((s.withArbiter (leaveSlot s.arbiter k slot
      { s.arbiter.classes.get k with state := .idle, lastEnd := .finished })).post .annState) := by
  simp only [endClass, h]
  rfl

theorem endClass_pending (h : (s.arbiter.classes.get k).state = .pending) :
    endClass k s = Handled.done ((s.withArbiter (s.arbiter.putClass k
      { s.arbiter.classes.get k with state := .idle, lastEnd := .withdrawn })).post .annState) := by
  simp only [endClass, h]

theorem endClass_idle (h : (s.arbiter.classes.get k).state = .idle) :
    endClass k s = Handled.refuse s
      (if (s.arbiter.classes.get k).lastEnd = .expired ∨ (s.arbiter.classes.get k).lastEnd = .preempted then .late
        else .notActive) := by
  simp only [endClass, h]
  split <;> rfl

end

theorem exec_annEnd (tag code : Byte) (s : State) :
    exec (.annEnd tag [code]) s = request 0x06 tag true true (handleAnnEnd [code]) s := rfl

/-- Settles O32: by the class that the code names, and by its state. -/
theorem annEndRule : Obligations.AnnEndRule := by
  intro tag code s h
  dsimp only
  rw [exec_annEnd, show [AnnClass.alert, .park, .phone, .nav][code.toNat]? = AnnClass.ofCode code.toNat from rfl]
  cases hcode : AnnClass.ofCode code.toNat with
  | none => exact request_refused h (handleAnnEnd_badId hcode _)
  | some k =>
    have hend := handleAnnEnd_class hcode (frameTaken s)
    dsimp only
    cases hstate : (s.arbiter.classes.get k).state with
    | active slot =>
      obtain ⟨t, hx, ho, harbiter, hreplies⟩ := request_arbiter h (tag := tag) (kind := 0x06)
        (hend.trans (endClass_active hstate)) (postArbiter_only _ _) (postArbiter_postsJust _ _) (by decide)
      exact ⟨t, hx, ho, harbiter.trans (postArbiter_arbiter _ _), hreplies⟩
    | pending =>
      obtain ⟨t, hx, ho, harbiter, hreplies⟩ := request_arbiter h (tag := tag) (kind := 0x06)
        (hend.trans (endClass_pending hstate)) (postArbiter_only _ _) (postArbiter_postsJust _ _) (by decide)
      exact ⟨t, hx, ho, harbiter.trans (postArbiter_arbiter _ _), hreplies⟩
    | idle => exact request_refused h (hend.trans (endClass_idle hstate))

/-! ## Timers (R125) -/

/-- The record of an ACTIVE class with its timer moved on. -/
def countedRec (next : Nat → Nat) (r : ClassRec) : ClassRec :=
  match r.state with
  | .active _ => { r with timer := next r.timer }
  | _ => r

/-- The arbiter with the timer of every ACTIVE class moved on. -/
def countedArbiter (next : Nat → Nat) (a : Arbiter) : Arbiter :=
  { a with classes := ⟨countedRec next a.classes.alert, countedRec next a.classes.park, countedRec next a.classes.phone,
      countedRec next a.classes.nav⟩ }

theorem tick_eq (a : Arbiter) : a.tick = countedArbiter (fun n => min 255000 (n + 1)) a := rfl

theorem countedRec_same (r : ClassRec) : countedRec (fun n => n) r = r := by
  unfold countedRec
  split <;> rfl

theorem countedArbiter_same (a : Arbiter) : countedArbiter (fun n => n) a = a := by
  simp only [countedArbiter, countedRec_same]

theorem countedArbiter_class (next : Nat → Nat) (a : Arbiter) (k : AnnClass) :
    (countedArbiter next a).classes.get k = countedRec next (a.classes.get k) := by cases k <;> rfl

theorem countedRec_state (next : Nat → Nat) (r : ClassRec) : (countedRec next r).state = r.state := by
  unfold countedRec
  split <;> rfl

theorem countedRec_active {next : Nat → Nat} {r : ClassRec} {slot : Slot} (h : r.state = .active slot) :
    countedRec next r = { r with timer := next r.timer } := by
  simp only [countedRec, h]

theorem countedRec_inactive {next : Nat → Nat} {r : ClassRec} (h : ∀ slot, r.state ≠ .active slot) :
    countedRec next r = r := by
  unfold countedRec
  split
  · exact absurd ‹_› (h _)
  · rfl

/-! ## Expiry (R126) -/

section
variable {t : Tables} {a : Arbiter} {k : AnnClass} {slot : Slot}

/-- A class record that ends EXPIRED. -/
def expiredRec (r : ClassRec) : ClassRec := { r with state := .idle, lastEnd := .expired }

/-- A class has a limit, and its timer has reached it. -/
def limitReached (t : Tables) (a : Arbiter) (k : AnnClass) : Prop :=
  (t.classEntry k).maxDuration ≠ 0 ∧ (t.classEntry k).maxDuration * 1000 ≤ (a.classes.get k).timer

theorem expiring_eq_some_iff : expiring t a k = some slot ↔
    limitReached t a k ∧ (a.classes.get k).state = .active slot := by
  rw [← slotOf_eq_some_iff]
  exact Option.ite_none_right_eq_some

theorem expireOne_some (h : expiring t a k = some slot) :
    expireOne t k a = leaveSlot a k slot (expiredRec (a.classes.get k)) := by
  simp only [expireOne, h]
  rfl

theorem expireOne_none (h : expiring t a k = none) : expireOne t k a = a := by
  simp only [expireOne, h]

theorem expireOne_class (t : Tables) (a : Arbiter) (k j : AnnClass) : (expireOne t k a).classes.get j =
    if j = k ∧ (expiring t a k).isSome then expiredRec (a.classes.get k) else a.classes.get j := by
  cases h : expiring t a k with
  | none => simp [expireOne_none h]
  | some slot => simp [expireOne_some h, leaveSlot_class]

theorem expireOne_slot (t : Tables) (a : Arbiter) (k : AnnClass) (x : Slot) : (expireOne t k a).slots.get x =
    if expiring t a k = some x then .draining else a.slots.get x := by
  cases h : expiring t a k with
  | none => simp [expireOne_none h]
  | some slot => simp [expireOne_some h, leaveSlot_slot, eq_comm]

/-- Whether one class expires does not depend on another's expiry; a class that has expired is IDLE. -/
theorem expiring_expireOne (t : Tables) (a : Arbiter) (k j : AnnClass) :
    expiring t (expireOne t k a) j = if j = k then none else expiring t a j := by
  have hsame : ∀ {b : Arbiter}, b.classes.get j = a.classes.get j → expiring t b j = expiring t a j := by
    intro b hb
    unfold expiring Arbiter.slotOf
    rw [hb]
  split
  · subst j
    rw [Option.eq_none_iff_forall_ne_some]
    intro x hx
    obtain ⟨-, hactive⟩ := expiring_eq_some_iff.mp hx
    cases h : expiring t a k with
    | none =>
      rw [expireOne_none h, h] at hx
      cases hx
    | some slot =>
      rw [expireOne_class, h, if_pos ⟨rfl, rfl⟩] at hactive
      cases hactive
  · exact hsame (by rw [expireOne_class, if_neg fun h => ‹¬j = k› h.1])

/-- Several classes that expire one after the other, each judged by the records before. -/
theorem foldl_expireOne (t : Tables) : ∀ (ks : List AnnClass) (a : Arbiter),
    let b := ks.foldl (fun a k => expireOne t k a) a
    (∀ j, b.classes.get j =
      if j ∈ ks ∧ (expiring t a j).isSome then expiredRec (a.classes.get j) else a.classes.get j) ∧
    ∀ x, b.slots.get x = if ∃ k ∈ ks, expiring t a k = some x then .draining else a.slots.get x
  | [], a => by simp
  | k :: ks, a => by
    obtain ⟨hclass, hslot⟩ := foldl_expireOne t ks (expireOne t k a)
    refine ⟨fun j => ?_, fun x => ?_⟩
    · rw [List.foldl_cons, hclass j, expiring_expireOne, expireOne_class]
      by_cases hj : j = k
      · simp [hj]
      · simp [hj]
    · rw [List.foldl_cons, hslot x, expireOne_slot]
      by_cases hk : expiring t a k = some x
      · simp [hk]
      · have hothers : (∃ j ∈ ks, expiring t (expireOne t k a) j = some x) ↔
            ∃ j ∈ k :: ks, expiring t a j = some x := by
          simp only [expiring_expireOne, List.exists_mem_cons_iff, hk, false_or]
          refine exists_congr fun j => and_congr_right fun _ => ?_
          by_cases hj : j = k <;> simp [hj, hk]
        rw [if_neg hk]
        exact if_congr hothers rfl rfl

theorem expireAll_eq (t : Tables) (a : Arbiter) : expireAll t a = AnnClass.all.foldl (fun a k => expireOne t k a) a := rfl

theorem expireAll_class (t : Tables) (a : Arbiter) (j : AnnClass) : (expireAll t a).classes.get j =
    if (expiring t a j).isSome then expiredRec (a.classes.get j) else a.classes.get j := by
  rw [expireAll_eq, (foldl_expireOne t _ a).1 j]
  exact if_congr (and_iff_right (mem_annClass_all j)) rfl rfl

theorem expireAll_slot_of_some (h : expiring t a k = some slot) : (expireAll t a).slots.get slot = .draining := by
  rw [expireAll_eq, (foldl_expireOne t _ a).2 slot, if_pos ⟨k, mem_annClass_all k, h⟩]

theorem expireAll_slot_of_none (h : ∀ k, expiring t a k ≠ some slot) :
    (expireAll t a).slots.get slot = a.slots.get slot := by
  rw [expireAll_eq, (foldl_expireOne t _ a).2 slot, if_neg fun ⟨k, _, hk⟩ => h k hk]

theorem expireAll_none (h : ∀ k, expiring t a k = none) : expireAll t a = a := by
  have hone : ∀ k, expireOne t k a = a := fun k => expireOne_none (h k)
  simp only [expireAll, hone]

theorem expireAll_ne (h : expiring t a k = some slot) : expireAll t a ≠ a := by
  intro hsame
  have hclass := expireAll_class t a k
  rw [hsame, h, if_pos Option.isSome_some] at hclass
  have hstate := congrArg ClassRec.state hclass
  rw [(expiring_eq_some_iff.mp h).2] at hstate
  cases hstate

end

theorem expire_arbiter (s : State) : (expire s).arbiter = expireAll s.tables s.arbiter := by
  unfold expire
  dsimp only
  split
  next hsame => exact hsame.symm
  next => exact postArbiter_arbiter _ _

theorem expire_unchanged {s : State} (h : expireAll s.tables s.arbiter = s.arbiter) : expire s = s := if_pos h

theorem expire_changed {s : State} (h : expireAll s.tables s.arbiter ≠ s.arbiter) :
    expire s = (s.withArbiter (expireAll s.tables s.arbiter)).post .annState := if_neg h

/-- Both rows move the timers on, the one by a frame, the other not, and compare them (R125, R126). -/
theorem exec_expiring {c : Instr} {next : Nat → Nat}
    (h : (c = .arbiterBoundary ∧ next = fun n => min 255000 (n + 1)) ∨ (c = .expiry ∧ next = fun n => n)) (s : State) :
    exec c s = event (fun s => expire (s.withArbiter (countedArbiter next s.arbiter))) s := by
  obtain ⟨rfl, rfl⟩ | ⟨rfl, rfl⟩ := h
  · rfl
  · simp only [countedArbiter_same]
    rfl

/-- The comparison over any records: what it leaves, and what it sends. -/
theorem event_expire {s : State} (ha : Awake s) {f : State → State} {b : Arbiter} (hf : f s = expire (s.withArbiter b)) :
    ∃ t, event f s = .next t ∧ Only [.arbiter, .link] s t ∧ t.arbiter = expireAll s.tables b ∧
      ((∃ k slot, expiring s.tables b k = some slot) → Sends s.link t [] [.annState]) ∧
      ((∀ k, expiring s.tables b k = none) → t.link = s.link) := by
  have hframe : Only [.arbiter, .link] s (f s) := by
    rw [hf]
    exact (withArbiter_only s b).comp (expire_only _)
  have harbiter : (f s).arbiter = expireAll s.tables b := by
    rw [hf, expire_arbiter]
    rfl
  by_cases hnone : ∀ k, expiring s.tables b k = none
  · have hlink : (f s).link = s.link := by
      rw [hf, expire_unchanged (s := s.withArbiter b) (expireAll_none (a := b) hnone)]
      rfl
    refine ⟨f s, event_quiet ha hlink, hframe, harbiter, fun ⟨k, slot, hk⟩ => ?_, fun _ => hlink⟩
    cases (hnone k).symm.trans hk
  · obtain ⟨k, hk⟩ := not_forall.mp hnone
    obtain ⟨slot, hk⟩ := Option.ne_none_iff_exists'.mp hk
    have hposts : PostsJust [.annState] s (f s) := by
      rw [hf, expire_changed (s := s.withArbiter b) (expireAll_ne (a := b) hk)]
      exact (postArbiter_postsJust _ _).after rfl
    obtain ⟨t, hx, ho, hsends⟩ := event_sends ha hposts (by decide)
    exact ⟨t, hx, hframe.comp ho, ho.arbiter.trans harbiter, fun _ => hsends, fun h => absurd h hnone⟩

/-! ## The timers moved on, and compared -/

section
variable {t : Tables} {next : Nat → Nat} {a : Arbiter} {k : AnnClass} {slot : Slot}

/-- A class has a limit, and its timer reaches it when it is moved on. -/
def comesDue (t : Tables) (next : Nat → Nat) (a : Arbiter) (k : AnnClass) : Prop :=
  (t.classEntry k).maxDuration ≠ 0 ∧ (t.classEntry k).maxDuration * 1000 ≤ next (a.classes.get k).timer

/-- Which classes expire once the timers have been moved on. -/
theorem expiring_counted : expiring t (countedArbiter next a) k = some slot ↔
    comesDue t next a k ∧ (a.classes.get k).state = .active slot := by
  rw [expiring_eq_some_iff, limitReached, countedArbiter_class, countedRec_state]
  refine and_congr_left fun hactive => ?_
  rw [countedRec_active hactive, comesDue]

theorem expiring_counted_none (h : ¬comesDue t next a k ∨ ∀ slot, (a.classes.get k).state ≠ .active slot) :
    expiring t (countedArbiter next a) k = none := by
  rw [Option.eq_none_iff_forall_ne_some]
  intro slot hk
  obtain ⟨hdue, hactive⟩ := expiring_counted.mp hk
  exact h.elim (fun h => h hdue) fun h => h slot hactive

theorem class_of_due (hactive : (a.classes.get k).state = .active slot) (hdue : comesDue t next a k) :
    (expireAll t (countedArbiter next a)).classes.get k =
      { a.classes.get k with state := .idle, lastEnd := .expired, timer := next (a.classes.get k).timer } := by
  rw [expireAll_class, expiring_counted.mpr ⟨hdue, hactive⟩, if_pos Option.isSome_some, countedArbiter_class,
    countedRec_active hactive]
  rfl

theorem class_of_not_due (hactive : (a.classes.get k).state = .active slot) (hdue : ¬comesDue t next a k) :
    (expireAll t (countedArbiter next a)).classes.get k = { a.classes.get k with timer := next (a.classes.get k).timer } := by
  rw [expireAll_class, expiring_counted_none (.inl hdue), if_neg (by simp), countedArbiter_class,
    countedRec_active hactive]

theorem class_of_inactive (h : ∀ slot, (a.classes.get k).state ≠ .active slot) :
    (expireAll t (countedArbiter next a)).classes.get k = a.classes.get k := by
  rw [expireAll_class, expiring_counted_none (.inr h), if_neg (by simp), countedArbiter_class,
    countedRec_inactive h]

theorem slot_of_due (hmatch : SlotsMatch a) (h : a.slots.get slot = .active k) (hdue : comesDue t next a k) :
    (expireAll t (countedArbiter next a)).slots.get slot = .draining :=
  expireAll_slot_of_some (expiring_counted.mpr ⟨hdue, (hmatch k slot).mpr h⟩)

/-- A slot drains only where the class that it holds comes due. -/
theorem slot_of_not_due (hmatch : SlotsMatch a) (h : ∀ k, a.slots.get slot = .active k → ¬comesDue t next a k) :
    (expireAll t (countedArbiter next a)).slots.get slot = a.slots.get slot := by
  refine expireAll_slot_of_none (a := countedArbiter next a) fun k hk => ?_
  obtain ⟨hdue, hactive⟩ := expiring_counted.mp hk
  exact h k ((hmatch k slot).mp hactive) hdue

end

/-- Settles O34: the rows count and compare; each class and each slot is then read off the comparison. -/
theorem timersExpireClasses : Obligations.TimersExpireClasses := by
  intro c next s ha ⟨hmatch, _⟩ hc
  obtain ⟨t, hx, ho, harbiter, hsends, hquiet⟩ :=
    event_expire ha (f := fun s => expire (s.withArbiter (countedArbiter next s.arbiter))) rfl
  refine ⟨t, (exec_expiring hc s).trans hx, ho, fun k => ?_, fun slot => ?_, fun ⟨k, slot, hactive, hdue⟩ => ?_,
    fun hnone => hquiet fun k => ?_⟩
  · rw [harbiter]
    dsimp only
    split
    next slot hstate =>
      split
      next hdue => exact class_of_due hstate hdue
      next hdue => exact class_of_not_due hstate hdue
    next hstate => exact class_of_inactive hstate
  · rw [harbiter]
    dsimp only
    cases hslot : s.arbiter.slots.get slot with
    | free => exact (slot_of_not_due hmatch (by rw [hslot]; exact nofun)).trans hslot
    | draining => exact (slot_of_not_due hmatch (by rw [hslot]; exact nofun)).trans hslot
    | active k =>
      dsimp only
      split
      next hdue => exact slot_of_due hmatch hslot hdue
      next hdue =>
        refine (slot_of_not_due hmatch fun j hj => ?_).trans hslot
        cases hslot.symm.trans hj
        exact hdue
  · exact hsends ⟨k, slot, expiring_counted.mpr ⟨hdue, hactive⟩⟩
  · rw [Option.eq_none_iff_forall_ne_some]
    intro slot hk
    obtain ⟨hdue, hactive⟩ := expiring_counted.mp hk
    exact hnone k slot hactive hdue

end Sys2Proof
end

section
/-! SUPPORT. ANN_START: the class that starts, the slot that it finds or the class that gives way to it, and the two
statements on it. -/

set_option Elab.async false

namespace Sys2Proof

open Sys2Proof.Machine

/-! ## Positions in rank order (R114) -/

/-- In a list in rank order, a class stands behind exactly those that outrank it. -/
theorem drop_head_eq_iff {t : Tables} {i : AnnClass} : ∀ {l : List AnnClass} {d : Nat}, l.Pairwise (Outranks t) →
    ((l.drop d).head? = some i ↔ i ∈ l ∧ (l.countP fun j => ranksAbove t j i) = d)
  | [], _, _ => by simp
  | x :: l, d, h => by
    obtain ⟨hx, hl⟩ := List.pairwise_cons.mp h
    have hself : ¬Outranks t i i := fun h => h.asymm h
    have hfirst : i = x → (l.countP fun j => ranksAbove t j i) = 0 := fun e =>
      List.countP_eq_zero.mpr fun y hy habove => (hx y hy).asymm (e ▸ (ranksAbove_iff t y i).mp habove)
    have hlater : i ∈ l → ranksAbove t x i = true := fun hi => (ranksAbove_iff t x i).mpr (hx i hi)
    have hnot : ranksAbove t i i = false := Bool.eq_false_iff.mpr (hself ∘ (ranksAbove_iff t i i).mp)
    rw [List.countP_cons, List.mem_cons]
    cases d with
    | zero =>
      simp only [List.drop_zero, List.head?_cons, Option.some_inj, Nat.add_eq_zero_iff]
      constructor
      · rintro rfl
        exact ⟨.inl rfl, hfirst rfl, by simp [hnot]⟩
      · rintro ⟨hi | hi, -, hzero⟩
        · exact hi.symm
        · simp [hlater hi] at hzero
    | succ d =>
      rw [List.drop_succ_cons, drop_head_eq_iff hl]
      constructor
      · rintro ⟨hi, hd⟩
        exact ⟨.inr hi, by simp [hlater hi, hd]⟩
      · rintro ⟨hi | hi, hd⟩
        · subst hi
          simp [hfirst rfl, hnot] at hd
        · exact ⟨hi, by simpa [hlater hi] using hd⟩

/-- In a list in rank order, the last class is the one that every other outranks. -/
theorem getLast_eq_iff {t : Tables} {x : AnnClass} {l : List AnnClass} (h : l.Pairwise (Outranks t)) :
    l.getLast? = some x ↔ x ∈ l ∧ ∀ y ∈ l, y ≠ x → Outranks t y x := by
  have hlast : ∀ {z}, l.getLast? = some z → z ∈ l ∧ ∀ y ∈ l, y ≠ z → Outranks t y z := by
    intro z hz
    refine ⟨List.mem_of_getLast? hz, fun y hy hne => ?_⟩
    obtain ⟨front, rfl⟩ := List.getLast?_eq_some_iff.mp hz
    obtain ⟨-, -, hcross⟩ := List.pairwise_append.mp h
    obtain hy | hy := List.mem_append.mp hy
    · exact hcross y hy z List.mem_cons_self
    · exact absurd (List.mem_singleton.mp hy) hne
  refine ⟨hlast, fun ⟨hx, hbelow⟩ => ?_⟩
  have hz := List.getLast?_eq_some_getLast (List.ne_nil_of_mem hx)
  obtain ⟨hmem, habove⟩ := hlast hz
  by_cases e : l.getLast (List.ne_nil_of_mem hx) = x
  · rw [hz, e]
  · exact absurd (habove x hx (Ne.symm e)) (hbelow _ hmem e).asymm

section
variable {t : Tables} {a b : Arbiter} {i j k x : AnnClass} {slot : Slot}

/-! ## The waiting class that pre-empts, and its victim (R121) -/

/-- A class waits, and as many waiting classes outrank it as slots drain. -/
def isNext (t : Tables) (a : Arbiter) (i : AnnClass) : Prop :=
  (a.classes.get i).state = .pending ∧ (AnnClass.all.countP fun j => a.isPending j && ranksAbove t j i) = a.draining

/-- A class is ACTIVE in a slot, and every other ACTIVE class outranks it. -/
def isLowest (t : Tables) (a : Arbiter) (x : AnnClass) (slot : Slot) : Prop :=
  (a.classes.get x).state = .active slot ∧
    ∀ y slot', (a.classes.get y).state = .active slot' → y ≠ x → Outranks t y x

theorem isNext_iff : ((pendingRanked t a).drop a.draining).head? = some i ↔ isNext t a i := by
  rw [drop_head_eq_iff (pendingRanked_sorted t a), mem_pendingRanked, countP_pendingRanked, isNext]

theorem isLowest_iff : (activeRanked t a).getLast? = some x ∧ a.slotOf x = some slot ↔ isLowest t a x slot := by
  have hsorted : (activeRanked t a).Pairwise (Outranks t) := (rankOrder_sorted t).filter _
  rw [getLast_eq_iff hsorted, isLowest, slotOf_eq_some_iff]
  simp only [mem_activeRanked, slotOf_isSome_iff]
  constructor
  · rintro ⟨⟨-, hbelow⟩, hx⟩
    exact ⟨hx, fun y slot' hy => hbelow y ⟨slot', hy⟩⟩
  · rintro ⟨hx, hbelow⟩
    exact ⟨⟨⟨slot, hx⟩, fun y ⟨slot', hy⟩ => hbelow y slot' hy⟩, hx⟩

/-- The victim is the lowest-ranked ACTIVE class, where the next waiting class has a higher level. -/
theorem victim_eq_some_iff (hfree : a.freeSlot = none) : victim t a = some (x, slot) ↔
    isLowest t a x slot ∧ ∃ i, isNext t a i ∧ (t.classEntry x).level < (t.classEntry i).level := by
  simp only [← isNext_iff, ← isLowest_iff]
  rw [victim, hfree, if_neg (by decide)]
  cases hpending : (pendingRanked t a).drop a.draining with
  | nil => simp
  | cons i rest =>
    cases hlow : (activeRanked t a).getLast? with
    | none => simp
    | some low =>
      dsimp only
      split
      next hhigher =>
        simp only [Option.map_eq_some_iff, Prod.mk.injEq, Option.some_inj, List.head?_cons, exists_eq_left']
        constructor
        · rintro ⟨y, hy, rfl, rfl⟩
          exact ⟨⟨rfl, hy⟩, hhigher⟩
        · rintro ⟨⟨rfl, hy⟩, -⟩
          exact ⟨slot, hy, rfl, rfl⟩
      next hnot =>
        refine iff_of_false nofun ?_
        rintro ⟨⟨hx, -⟩, p, hp, hlevel⟩
        cases hx
        cases hp
        exact hnot hlevel

theorem isLowest.level_le {slot' : Slot} (h : isLowest t a x slot) (hj : (a.classes.get j).state = .active slot') :
    (t.classEntry x).level ≤ (t.classEntry j).level := by
  by_cases e : j = x
  · exact e ▸ le_rfl
  · exact (h.2 j slot' hj e).level_le

/-! ## A class that starts (R117) -/

/-- The arbiter with a class started: PENDING with its roles. -/
def startedArbiter (a : Arbiter) (k : AnnClass) (roles : Roles) : Arbiter := a.putClass k ⟨.pending, roles, .none, 0⟩

variable {roles : Roles}

theorem startedArbiter_class (a : Arbiter) (k : AnnClass) (roles : Roles) (j : AnnClass) :
    (startedArbiter a k roles).classes.get j = if j = k then ⟨.pending, roles, .none, 0⟩ else a.classes.get j :=
  putClass_class a k _ j

theorem startedArbiter_active (h : ((startedArbiter a k roles).classes.get j).state = .active slot) :
    j ≠ k ∧ (a.classes.get j).state = .active slot := by
  rw [startedArbiter_class] at h
  split at h
  · cases h
  · exact ⟨‹_›, h⟩

theorem AtRest.started_slotsMatch (h : AtRest t a) (hk : (a.classes.get k).state = .idle) :
    SlotsMatch (startedArbiter a k roles) := by
  refine h.slots.putClass fun x => ?_
  rw [hk]
  exact iff_of_false nofun nofun

/-! A slot is FREE: the class takes the first (R120). -/

theorem class_put_put {α : Type} (p : PerClass α) (k : AnnClass) (v w : α) : (p.put k v).put k w = p.put k w := by
  cases k <;> rfl

theorem grant_started (a : Arbiter) (k : AnnClass) (roles : Roles) (slot : Slot) :
    (startedArbiter a k roles).grant k slot =
      ⟨a.classes.put k ⟨.active slot, roles, .none, 0⟩, a.slots.put slot (.active k)⟩ := by
  simp only [Arbiter.grant, startedArbiter, Arbiter.putClass, Arbiter.putSlot, class_get_put_same, class_put_put]

/-- No other class waits, so that the started class is granted the slot, and then none waits. -/
theorem arbitrated_started_free (h : AtRest t a) (hfree : a.freeSlot = some slot) :
    arbitrated t (startedArbiter a k roles) = (startedArbiter a k roles).grant k slot := by
  have hnone : ∀ j, (a.classes.get j).state ≠ .pending := fun j hj => h.waits ⟨j, hj⟩ slot (freeSlot_free hfree)
  have honly : ∀ j, ((startedArbiter a k roles).classes.get j).state = .pending → j = k := by
    intro j hj
    by_contra e
    rw [startedArbiter_class, if_neg e] at hj
    exact hnone j hj
  obtain ⟨rest, hp, hrest⟩ := pendingRanked_of_top (t := t) (a := startedArbiter a k roles) (k := k)
    (by rw [startedArbiter_class, if_pos rfl]) fun j hj e => absurd (honly j hj) e
  obtain rfl : rest = [] := List.eq_nil_iff_forall_not_mem.mpr fun j hj => by
    obtain rfl := honly j (mem_pendingRanked.mp (hp ▸ List.mem_cons_of_mem _ hj))
    exact (hrest j hj).asymm (hrest j hj)
  have hgranted := pendingRanked_grant (slot := slot) hp
  have hall : grantAll t (startedArbiter a k roles) = (startedArbiter a k roles).grant k slot := by
    rw [grantAll, grantOne_of_some (a := startedArbiter a k roles) hfree hp, grantOne_of_none (.inr hgranted)]
  rw [arbitrated_of_victim_none, hall]
  rw [hall, victim_eq_none_iff, hgranted, List.drop_nil]
  exact fun _ _ hp => nomatch hp

/-! No slot is FREE: the next waiting class pre-empts, or none does (R121). -/

/-- One class more adds at most one to those that wait above a level. -/
theorem pendingAbove_le_succ {level : Nat}
    (h : ∀ p, p ≠ k → (b.classes.get p).state = .pending → level < (t.classEntry p).level → (a.classes.get p).state = .pending) :
    pendingAbove t b level ≤ pendingAbove t a level + 1 := by
  have hperm : AnnClass.all.Perm (k :: AnnClass.all.erase k) := List.perm_cons_erase (mem_annClass_all k)
  have hothers : (AnnClass.all.erase k).countP (fun p => b.isPending p && decide (level < (t.classEntry p).level)) ≤
      (AnnClass.all.erase k).countP (fun p => a.isPending p && decide (level < (t.classEntry p).level)) := by
    refine List.countP_mono_left fun p hmem hp => ?_
    have hne : p ≠ k := ((List.Nodup.mem_erase_iff (by decide)).mp hmem).1
    rw [Bool.and_eq_true, isPending_iff, decide_eq_true_iff] at hp ⊢
    exact ⟨h p hne hp.1 hp.2, hp.2⟩
  rw [pendingAbove, pendingAbove, hperm.countP_eq, hperm.countP_eq, List.countP_cons, List.countP_cons]
  split_ifs <;> omega

theorem arbitrateRounds_of_atRest (h : AtRest t a) (n : Nat) : arbitrateRounds t (n + 1) a = a := by
  obtain ⟨-, hdone, hvictim⟩ := atRest_iff.mp h
  have hgrants := grantAll_of_none hdone
  rw [arbitrateRounds, hgrants, hvictim]

/-- A pre-emption leaves one DRAINING slot more for the class that has started, and the victim waits above no other. -/
theorem preempt_started_atRest (h : AtRest t a) (hfree : a.freeSlot = none) (hk : (a.classes.get k).state = .idle)
    (hlowest : isLowest t (startedArbiter a k roles) x slot) : AtRest t (preempt t (startedArbiter a k roles) x slot) := by
  have hmatch : SlotsMatch (startedArbiter a k roles) := h.started_slotsMatch hk
  have hx : (startedArbiter a k roles).slotOf x = some slot := (slotOf_eq_some_iff _ x slot).mpr hlowest.1
  have hslot : a.slots.get slot = .active x := hmatch.slot_of_class hx
  rw [preempt_eq]
  refine ⟨hmatch.leaveSlot hx (preemptedRec_not_active t x _), fun _ y => ?_, fun j slot' hj => ?_⟩
  · rw [leaveSlot_slot]
    split
    · exact nofun
    · exact freeSlot_eq_none_iff.mp hfree y
  · rw [leaveSlot_class] at hj
    split at hj
    · exact absurd hj (preemptedRec_not_active t x _ slot')
    have hlevel := hlowest.level_le hj
    obtain ⟨-, hactive⟩ := startedArbiter_active hj
    have hbefore := h.levels j slot' hactive
    have hmore : pendingAbove t (leaveSlot (startedArbiter a k roles) x slot
        (preemptedRec t x ((startedArbiter a k roles).classes.get x))) (t.classEntry j).level ≤
        pendingAbove t a (t.classEntry j).level + 1 := by
      refine pendingAbove_le_succ (k := k) fun p hpk hp habove => ?_
      have hpx : p ≠ x := fun e => absurd (e ▸ habove) (not_lt.mpr hlevel)
      rwa [leaveSlot_class, if_neg hpx, startedArbiter_class, if_neg hpk] at hp
    rw [draining_leaveSlot (a := startedArbiter a k roles) (hslot ▸ nofun)]
    exact hmore.trans (Nat.add_le_add_right hbefore 1)

theorem arbitrated_started_victim (h : AtRest t a) (hfree : a.freeSlot = none) (hk : (a.classes.get k).state = .idle)
    (hvictim : victim t (startedArbiter a k roles) = some (x, slot)) :
    arbitrated t (startedArbiter a k roles) = preempt t (startedArbiter a k roles) x slot := by
  have hgrants : grantAll t (startedArbiter a k roles) = startedArbiter a k roles := grantAll_of_none (.inl hfree)
  obtain ⟨hlowest, -⟩ := (victim_eq_some_iff (a := startedArbiter a k roles) hfree).mp hvictim
  rw [arbitrated, arbitrateRounds, hgrants, hvictim]
  exact arbitrateRounds_of_atRest (preempt_started_atRest h hfree hk hlowest) 2

theorem arbitrated_started_waits (hfree : a.freeSlot = none) (hvictim : victim t (startedArbiter a k roles) = none) :
    arbitrated t (startedArbiter a k roles) = startedArbiter a k roles := by
  have hgrants : grantAll t (startedArbiter a k roles) = startedArbiter a k roles := grantAll_of_none (.inl hfree)
  rw [arbitrated_of_victim_none (by rwa [hgrants]), hgrants]

/-- With no slot FREE the started class waits: it is no victim, since it was not ACTIVE. -/
theorem arbitrated_started_full (h : AtRest t a) (hfree : a.freeSlot = none) (hk : (a.classes.get k).state = .idle) :
    (arbitrated t (startedArbiter a k roles)).classes.get k = ⟨.pending, roles, .none, 0⟩ := by
  cases hvictim : victim t (startedArbiter a k roles) with
  | none => rw [arbitrated_started_waits hfree hvictim, startedArbiter_class, if_pos rfl]
  | some lost =>
    obtain ⟨x, slot⟩ := lost
    obtain ⟨⟨hx, -⟩, -⟩ := (victim_eq_some_iff (a := startedArbiter a k roles) hfree).mp hvictim
    obtain ⟨hne, -⟩ := startedArbiter_active hx
    rw [arbitrated_started_victim h hfree hk hvictim, preempt_eq, leaveSlot_class, if_neg (Ne.symm hne),
      startedArbiter_class, if_pos rfl]

/-- The first FREE slot goes to the started class; where none is FREE, the class waits (R117, R120). -/
theorem arbitrated_started (h : AtRest t a) (hk : (a.classes.get k).state = .idle) :
    if a.slots.slot1 = .free then
      arbitrated t (startedArbiter a k roles) =
        ⟨a.classes.put k ⟨.active .slot1, roles, .none, 0⟩, a.slots.put .slot1 (.active k)⟩
    else if a.slots.slot2 = .free then
      arbitrated t (startedArbiter a k roles) =
        ⟨a.classes.put k ⟨.active .slot2, roles, .none, 0⟩, a.slots.put .slot2 (.active k)⟩
    else (arbitrated t (startedArbiter a k roles)).classes.get k = ⟨.pending, roles, .none, 0⟩ := by
  split
  next h1 => rw [arbitrated_started_free h (slot := .slot1) (if_pos h1), grant_started]
  next h1 =>
    split
    next h2 => rw [arbitrated_started_free h (slot := .slot2) ((if_neg h1).trans (if_pos h2)), grant_started]
    next h2 => exact arbitrated_started_full h ((if_neg h1).trans (if_neg h2)) hk

end

/-! ## The request (R115, R116) -/

theorem roles_isEmpty_iff (r : Roles) : r.isEmpty = true ↔ r = ⟨false, false, false, false⟩ := by
  obtain ⟨driver, codriver, rearLeft, rearRight⟩ := r
  simp [Roles.isEmpty, and_assoc]

section
variable {s : State} {code marks : Byte} {k : AnnClass} {roles : Roles}

theorem handleAnnStart_badId (h : AnnClass.ofCode code.toNat = none) (s : State) :
    handleAnnStart [code, marks] s = Handled.refuse s .badId := by simp only [handleAnnStart, h]

theorem handleAnnStart_badRange (h : AnnClass.ofCode code.toNat = some k) (hempty : (Roles.ofByte marks).isEmpty = true)
    (s : State) : handleAnnStart [code, marks] s = Handled.refuse s .badRange := by
  simp only [handleAnnStart, h, if_pos hempty]

theorem handleAnnStart_class (h : AnnClass.ofCode code.toNat = some k) (hroles : (Roles.ofByte marks).isEmpty ≠ true)
    (s : State) : handleAnnStart [code, marks] s = Handled.done (startClass k (Roles.ofByte marks) s) := by
  simp only [handleAnnStart, h, if_neg hroles]

theorem startClass_idle (h : (s.arbiter.classes.get k).state = .idle) (roles : Roles) :
    startClass k roles s = arbitrate ((s.withArbiter (startedArbiter s.arbiter k roles)).post .annState) := by
  simp only [startClass, h]
  rfl

theorem startClass_other (h : (s.arbiter.classes.get k).state ≠ .idle) (roles : Roles) :
    startClass k roles s = if roles = (s.arbiter.classes.get k).roles then s
      else (s.withArbiter (s.arbiter.putClass k { s.arbiter.classes.get k with roles := roles })).post .annState := by
  unfold startClass
  dsimp only
  split
  · exact absurd ‹_› h
  · rfl
  · rfl

/-- A start and what arbitration does in the same event are told by one ANN_STATE (R131, R182). -/
theorem startClass_idle_postsJust (h : (s.arbiter.classes.get k).state = .idle) (roles : Roles) :
    PostsJust [.annState] s (startClass k roles s) := by
  rw [startClass_idle h]
  exact (postArbiter_postsJust _ s).trans_again (arbitrate_link _) fun n hn => (List.mem_ite_nil_left.mp hn).2

theorem startClass_idle_arbiter (h : (s.arbiter.classes.get k).state = .idle) (roles : Roles) :
    (startClass k roles s).arbiter = arbitrated s.tables (startedArbiter s.arbiter k roles) := by
  rw [startClass_idle h, arbitrate_arbiter, postArbiter_arbiter, (postArbiter_only _ s).tables]

theorem class_put_get {α : Type} (p : PerClass α) (k : AnnClass) : p.put k (p.get k) = p := by cases k <;> rfl

theorem startClass_other_arbiter (h : (s.arbiter.classes.get k).state ≠ .idle) (roles : Roles) :
    (startClass k roles s).arbiter = s.arbiter.putClass k { s.arbiter.classes.get k with roles := roles } := by
  rw [startClass_other h]
  split
  next hsame =>
    subst hsame
    exact congrArg (Arbiter.mk · s.arbiter.slots) (class_put_get s.arbiter.classes k).symm
  next => exact postArbiter_arbiter _ s

theorem startClass_other_postsJust (h : (s.arbiter.classes.get k).state ≠ .idle) (roles : Roles) :
    PostsJust (if roles = (s.arbiter.classes.get k).roles then [] else [.annState]) s (startClass k roles s) := by
  rw [startClass_other h]
  split
  · exact .of_link rfl
  · exact postArbiter_postsJust _ s

/-- ANN_START of an IDLE class: what it answers, and the arbiter that arbitration leaves. -/
theorem exec_annStart_idle (h : Handles s) (tag : Byte) (hcode : AnnClass.ofCode code.toNat = some k)
    (hroles : (Roles.ofByte marks).isEmpty ≠ true) (hidle : (s.arbiter.classes.get k).state = .idle) :
    ∃ t, exec (.annStart tag [code, marks]) s = .next t ∧ Only [.arbiter, .link, .draws] s t ∧
      t.arbiter = arbitrated s.tables (startedArbiter s.arbiter k (Roles.ofByte marks)) ∧
      Replies s t 0x05 tag .ok [] [.annState] := by
  obtain ⟨t, hx, ho, harbiter, hreplies⟩ := request_arbiter h (tag := tag) (kind := 0x05)
    (handleAnnStart_class hcode hroles _) (startClass_only k _ _) (startClass_idle_postsJust (s := frameTaken s) hidle _) (by decide)
  exact ⟨t, hx, ho, harbiter.trans (startClass_idle_arbiter (s := frameTaken s) hidle _), hreplies⟩

end

/-- Settles O29: by the checks, and by whether the class is IDLE. -/
theorem annStartTakesFreeSlot : Obligations.AnnStartTakesFreeSlot := by
  intro tag code marks s h hsettled
  have hrest : AtRest s.tables s.arbiter := (settled_iff s).mp hsettled
  dsimp only
  rw [show [AnnClass.alert, .park, .phone, .nav][code.toNat]? = AnnClass.ofCode code.toNat from rfl,
    show (⟨marks.getLsbD 0, marks.getLsbD 1, marks.getLsbD 2, marks.getLsbD 3⟩ : Roles) = Roles.ofByte marks from rfl]
  cases hcode : AnnClass.ofCode code.toNat with
  | none => exact request_refused h (handleAnnStart_badId hcode _)
  | some k =>
    dsimp only
    by_cases hroles : (Roles.ofByte marks).isEmpty = true
    · obtain ⟨t, hx, href⟩ := request_refused h (kind := 0x05) (tag := tag) (ready := true)
        (handleAnnStart_badRange hcode hroles _)
      exact ⟨t, hx, by rw [if_pos ((roles_isEmpty_iff _).mp hroles)]; exact href⟩
    · have hsome := hroles ∘ (roles_isEmpty_iff (Roles.ofByte marks)).mpr
      by_cases hidle : (s.arbiter.classes.get k).state = .idle
      · obtain ⟨t, hx, ho, harbiter, hreplies⟩ := exec_annStart_idle h tag hcode hroles hidle
        refine ⟨t, hx, ?_⟩
        rw [if_neg hsome, if_pos hidle, harbiter]
        exact ⟨ho, hreplies, arbitrated_started hrest hidle⟩
      · obtain ⟨t, hx, ho, harbiter, hreplies⟩ := request_arbiter h (tag := tag) (kind := 0x05)
          (handleAnnStart_class hcode hroles _) (startClass_only k _ _) (startClass_other_postsJust (s := frameTaken s) hidle _)
          (by split <;> decide)
        refine ⟨t, hx, ?_⟩
        rw [if_neg hsome, if_neg hidle]
        exact ⟨ho, harbiter.trans (startClass_other_arbiter (s := frameTaken s) hidle _), hreplies⟩

/-! ## Pre-emption (R119, R121, R122) -/

theorem draining_eq_countP (a : Arbiter) :
    a.draining = [a.slots.slot1, a.slots.slot2].countP fun x => x = .draining := by
  simp [Arbiter.draining, List.countP_cons, Nat.add_comm]

/-- The next waiting class, as the statement counts it. -/
theorem isNext_iff_countP {t : Tables} {a : Arbiter} {i : AnnClass} : isNext t a i ↔
    (a.classes.get i).state = .pending ∧
      ([AnnClass.alert, .park, .phone, .nav].countP fun j => (a.classes.get j).state = .pending ∧
        ((t.classEntry i).level < (t.classEntry j).level ∨
          (t.classEntry j).level = (t.classEntry i).level ∧ j.code < i.code)) =
        [a.slots.slot1, a.slots.slot2].countP fun x => x = .draining := by
  rw [isNext, draining_eq_countP]
  refine and_congr_right fun _ => Eq.congr_left (List.countP_congr fun j _ => ?_)
  rw [Bool.and_eq_true, isPending_iff, ranksAbove_iff, decide_eq_true_iff]
  rfl

/-- Settles O30: the victim is the lowest-ranked ACTIVE class under the next waiting one, and one pre-emption ends it. -/
theorem annStartPreemptsLowerLevel : Obligations.AnnStartPreemptsLowerLevel := by
  intro tag marks k s h hsettled hmarks h1 h2 hidle
  have hrest : AtRest s.tables s.arbiter := (settled_iff s).mp hsettled
  have hfree : s.arbiter.freeSlot = none := (if_neg h1).trans (if_neg h2)
  have hcode : AnnClass.ofCode (byteOf k.code).toNat = some k := by cases k <;> rfl
  have hroles : (Roles.ofByte marks).isEmpty ≠ true := by
    rw [Roles.isEmpty, Roles.ofByte, hmarks]
    decide
  obtain ⟨t, hx, ho, harbiter, hreplies⟩ := exec_annStart_idle h tag hcode hroles hidle
  refine ⟨t, hx, ho, hreplies, fun i x slot hnext hlowest hlevel => ?_, fun hnone => ?_⟩
  · have hvictim : victim s.tables (startedArbiter s.arbiter k (Roles.ofByte marks)) = some (x, slot) :=
      (victim_eq_some_iff (a := startedArbiter _ k _) hfree).mpr ⟨hlowest, i, isNext_iff_countP.mpr hnext, hlevel⟩
    rw [harbiter, arbitrated_started_victim hrest hfree hidle hvictim]
    rfl
  · have hvictim : victim s.tables (startedArbiter s.arbiter k (Roles.ofByte marks)) = none := by
      rw [Option.eq_none_iff_forall_ne_some]
      rintro ⟨x, slot⟩ hvictim
      obtain ⟨hlowest, i, hnext, hlevel⟩ := (victim_eq_some_iff (a := startedArbiter _ k _) hfree).mp hvictim
      exact hnone i x slot (isNext_iff_countP.mp hnext) hlowest hlevel
    rw [harbiter, arbitrated_started_waits hfree hvictim]
    rfl

end Sys2Proof
end

section
/-! SUPPORT. Every step leaves the arbiter at rest. -/

set_option Elab.async false

namespace Sys2Proof

open Sys2Proof.Machine

/-! ## Records changed without arbitration (R118, R124 to R126) -/

section
variable {t t' : Tables} {a b : Arbiter} {k : AnnClass} {slot : Slot}

/-- Where no class joins those that wait or play, and slots only begin to drain, there is nothing to arbitrate. -/
theorem AtRest.of_fewer (h : AtRest t a) (hmatch : SlotsMatch b)
    (hpending : ∀ p, (b.classes.get p).state = .pending → (a.classes.get p).state = .pending)
    (hactive : ∀ j x, (b.classes.get j).state = .active x → (a.classes.get j).state = .active x)
    (hslots : ∀ x, b.slots.get x = a.slots.get x ∨ b.slots.get x = .draining) : AtRest t b := by
  refine ⟨hmatch, fun ⟨p, hp⟩ x hfree => ?_, fun j x hj => ?_⟩
  · obtain hx | hx := hslots x
    · exact h.waits ⟨p, hpending p hp⟩ x (hx ▸ hfree)
    · cases hx.symm.trans hfree
  · calc pendingAbove t b (t.classEntry j).level
      _ ≤ pendingAbove t a (t.classEntry j).level := pendingAbove_mono fun p hp _ => hpending p hp
      _ ≤ a.draining := h.levels j x (hactive j x hj)
      _ ≤ b.draining := draining_mono fun y hy => (hslots y).elim (fun e => e.trans hy) id

theorem AtRest.leaveSlot {r : ClassRec} (h : AtRest t a) (hk : (a.classes.get k).state = .active slot) (hr : r.state = .idle) :
    AtRest t (leaveSlot a k slot r) := by
  have hold : a.slotOf k = some slot := (slotOf_eq_some_iff a k slot).mpr hk
  refine h.of_fewer (h.slots.leaveSlot hold fun x => by rw [hr]; exact nofun) (fun p hp => ?_) (fun j x hj => ?_) fun x => ?_
  · rw [leaveSlot_class] at hp
    split at hp
    · cases hr.symm.trans hp
    · exact hp
  · rw [leaveSlot_class] at hj
    split at hj
    · cases hr.symm.trans hj
    · exact hj
  · rw [leaveSlot_slot]
    split
    · exact .inr rfl
    · exact .inl rfl

/-- A class record replaced by one in the same state, or a class that has waited withdrawn. -/
theorem AtRest.putClass {r : ClassRec} (h : AtRest t a)
    (hr : r.state = (a.classes.get k).state ∨ (a.classes.get k).state = .pending ∧ r.state = .idle) :
    AtRest t (a.putClass k r) := by
  have hactive : ∀ x, r.state = .active x ↔ (a.classes.get k).state = .active x := by
    intro x
    obtain hsame | ⟨hold, hnew⟩ := hr
    · rw [hsame]
    · rw [hold, hnew]
      exact iff_of_false nofun nofun
  refine h.of_fewer (h.slots.putClass hactive) (fun p hp => ?_) (fun j x hj => ?_) fun x => .inl rfl
  · rw [putClass_class] at hp
    split at hp
    next e =>
      subst e
      obtain hsame | ⟨hold, -⟩ := hr
      · rwa [← hsame]
      · exact hold
    next => exact hp
  · rw [putClass_class] at hj
    split at hj
    next e => exact e ▸ (hactive x).mp hj
    next => exact hj

theorem AtRest.counted (h : AtRest t a) (next : Nat → Nat) : AtRest t (countedArbiter next a) := by
  have hstate : ∀ k, ((countedArbiter next a).classes.get k).state = (a.classes.get k).state := fun k => by
    rw [countedArbiter_class, countedRec_state]
  refine h.of_fewer (fun k x => ?_) (fun p hp => hstate p ▸ hp) (fun j x hj => hstate j ▸ hj) fun x => .inl rfl
  rw [hstate]
  exact h.slots k x

theorem AtRest.expireOne (h : AtRest t a) (k : AnnClass) : AtRest t (expireOne t k a) := by
  cases hk : expiring t a k with
  | none => rwa [expireOne_none hk]
  | some slot =>
    rw [expireOne_some hk]
    exact h.leaveSlot (expiring_eq_some_iff.mp hk).2 rfl

theorem AtRest.expireAll (h : AtRest t a) : AtRest t (expireAll t a) :=
  (((h.expireOne .alert).expireOne .park).expireOne .phone).expireOne .nav

/-- The level of each class is its entry's in CLASSES (R114). -/
theorem AtRest.congr (h : AtRest t a) (hclasses : t'.classes = t.classes) : AtRest t' a := by
  refine ⟨h.slots, h.waits, fun j slot hj => ?_⟩
  rw [pendingAbove, classEntry_congr hclasses]
  exact h.levels j slot hj

end

/-! ## The shared operations -/

section
variable {s t : State}

theorem Settled.atRest (hs : Settled s) : AtRest s.tables s.arbiter := (settled_iff s).mp hs

theorem Settled.keep (hs : Settled s) (harbiter : t.arbiter = s.arbiter) (hclasses : t.tables.classes = s.tables.classes) :
    Settled t := by
  rw [settled_iff, harbiter]
  exact hs.atRest.congr hclasses

theorem Settled.of_frame {l : List Block} (hs : Settled s) (h : Only l s t) (htables : Block.tables ∉ l := by decide)
    (harbiter : Block.arbiter ∉ l := by decide) : Settled t :=
  hs.keep (h.arbiter harbiter) (congrArg Tables.classes (h.tables htables))

/-- An event that leaves the tables is settled if it leaves the arbiter at rest. -/
theorem settled_of_arbiter {l : List Block} (h : Only l s t) (hrest : AtRest s.tables t.arbiter)
    (htables : Block.tables ∉ l := by decide) : Settled t := by
  rwa [settled_iff, h.tables htables]

theorem arbitrate_settled (h : SlotsMatch s.arbiter) : Settled (arbitrate s) := by
  refine settled_of_arbiter (arbitrate_only s) ?_
  rw [arbitrate_arbiter]
  exact arbitrated_atRest h

theorem startClass_settled (hs : Settled s) (k : AnnClass) (roles : Roles) : Settled (startClass k roles s) := by
  refine settled_of_arbiter (startClass_only k roles s) ?_
  by_cases hidle : (s.arbiter.classes.get k).state = .idle
  · rw [startClass_idle_arbiter hidle]
    exact arbitrated_atRest (hs.atRest.started_slotsMatch hidle)
  · rw [startClass_other_arbiter hidle]
    exact hs.atRest.putClass (.inl rfl)

theorem handleAnnStart_settled (p : List Byte) (hs : Settled s) : Settled (handleAnnStart p s).state := by
  unfold handleAnnStart
  split
  · split
    · exact hs
    · split
      · exact hs
      · exact startClass_settled hs _ _
  · exact hs

theorem endClass_settled (hs : Settled s) (k : AnnClass) : Settled (endClass k s).state := by
  have hrest := hs.atRest
  refine settled_of_arbiter (endClass_only k s) ?_
  cases hstate : (s.arbiter.classes.get k).state with
  | active slot =>
    rw [endClass_active hstate, Handled.done, postArbiter_arbiter]
    exact hrest.leaveSlot hstate rfl
  | pending =>
    rw [endClass_pending hstate, Handled.done, postArbiter_arbiter]
    exact hrest.putClass (.inr ⟨hstate, rfl⟩)
  | idle =>
    rw [endClass_idle hstate]
    exact hrest

theorem handleAnnEnd_settled (p : List Byte) (hs : Settled s) : Settled (handleAnnEnd p s).state := by
  unfold handleAnnEnd
  split
  · split
    · exact hs
    · exact endClass_settled hs _
  · exact hs

theorem takeDrain_settled (slot : Slot) (hs : Settled s) : Settled (takeDrain slot s) := by
  by_cases h : s.ramp.handed.get slot = true
  · by_cases hd : s.arbiter.slots.get slot = .draining
    · rw [takeDrain_draining h hd]
      refine arbitrate_settled ?_
      rw [postArbiter_arbiter]
      exact hs.atRest.slots.putSlot (by rw [hd]; exact nofun) nofun
    · rw [takeDrain_not_draining h hd]
      exact hs.of_frame (withRamp_only s _)
  · rw [takeDrain_unhanded h]
    exact hs

theorem expire_settled (hs : Settled s) : Settled (expire s) := by
  refine settled_of_arbiter (expire_only s) ?_
  rw [expire_arbiter]
  exact hs.atRest.expireAll

theorem arbiterBoundary_settled (hs : Settled s) : Settled (expire (s.withArbiter s.arbiter.tick)) := by
  refine expire_settled (settled_of_arbiter (withArbiter_only s _) ?_)
  rw [tick_eq]
  exact hs.atRest.counted _

/-! ## Accepted writes (R111) -/

theorem putNums_classes (t : Tables) (id : TableId) (l : List Int) : (t.putNums id l).classes = t.classes := by
  cases id <;> rfl

/-- A write of CLASSES is arbitrated, and no other write touches the levels. -/
theorem TableAct.settled (h : TableAct s t) (hs : Settled s) : Settled t := by
  cases h with
  | refused => exact hs
  | curve l => exact hs.keep (acceptCurve_only l s).arbiter rfl
  | classes l => exact arbitrate_settled hs.atRest.slots
  | route l => exact hs.keep (acceptRoute_only l s).arbiter rfl
  | sets i ws => exact hs.of_frame (writeSets_only true i ws s)
  | numbers id first k l _ =>
    refine hs.keep (acceptNums_only id first k l s).arbiter ?_
    rw [acceptNums_tables, putNums_classes]

theorem handlePatchPut_settled (p : List Byte) (hs : Settled s) : Settled (handlePatchPut p s).state := by
  obtain ⟨u, hact, honly⟩ := handlePatchPut_acts p s
  exact (hact.settled hs).of_frame honly

/-! ## LOAD (R173) -/

theorem patchStage_classes (x : Tables × Nat) (r : PatchRec) : (patchStage x r).1.classes = x.1.classes := by
  unfold patchStage
  dsimp only
  split
  · exact putNums_classes _ _ _
  · rfl

theorem patchStages_classes : ∀ (l : List PatchRec) (x : Tables × Nat), (l.foldl patchStage x).1.classes = x.1.classes
  | [], _ => rfl
  | r :: l, x => (patchStages_classes l (patchStage x r)).trans (patchStage_classes x r)

/-- The stored classes placed, and arbitration over them. -/
theorem loadPlaced_settled (hs : Settled s) : Settled (loadPlaced s) := by
  have hplaced : Settled (loadTables s) := by
    rw [settled_iff, loadTables, placedStage_tables, placedStage_arbiter]
    exact arbitrated_atRest hs.atRest.slots
  exact hplaced.of_frame (loadPlaced_only s)

theorem loadPatched_settled (hs : Settled (loadPlaced s)) : Settled (loadPatched s) := by
  refine hs.keep (loadPatched_only s).arbiter ?_
  rw [loadPlaced, placeFactory_tables]
  exact patchStages_classes _ _

theorem completeLoad_settled (hs : Settled s) : Settled (completeLoad s) := by
  by_cases hload : s.store.running = some .load
  · by_cases hv : s.store.factoryState = .valid
    · rw [completeLoad_valid hload hv]
      exact (loadPatched_settled (loadPlaced_settled hs)).of_frame (finishLoad_only _)
    · rw [completeLoad_invalid hload hv]
      exact (hs.of_frame (loadUnplaced_only s)).of_frame (finishLoad_only _)
  · rw [completeLoad, if_neg hload]
    exact hs

end

/-! ## Every event -/

theorem effect_settled (c : Instr) {s : State} (hs : Settled s) : Settled (effect c s) := by
  have request : ∀ {kind tag lengthOk ready} {handle : State → Handled},
      (∀ u, Settled u → Settled (handle u).state) → Settled (taken kind tag lengthOk ready handle s) :=
    fun hh => taken_keeps (P := Settled) (fun _ _ h => h) hh hs _ _ _ _
  have hf := effect_only c s
  cases c
  all_goals dsimp only [touches] at hf
  case annStart p => exact request fun _ => handleAnnStart_settled p
  case annEnd p => exact request fun _ => handleAnnEnd_settled p
  case tableWrite p => exact request fun u => (handleTableWrite_acts p u).settled
  case patchPut p => exact request fun _ => handlePatchPut_settled p
  case drainCompletion slot => exact takeDrain_settled slot hs
  case arbiterBoundary => exact arbiterBoundary_settled hs
  case expiry => exact expire_settled hs
  case loadComplete => exact completeLoad_settled hs
  all_goals exact hs.of_frame hf

/-- Settles O9: arbitration ends at rest, and what changes the arbiter without arbitration leaves it at rest. -/
theorem arbitrationStaysSettled : Obligations.ArbitrationStaysSettled := by
  intro s t hs h
  have ht : Settled t := step_keeps (P := Settled) (fun _ _ h => h) (fun _ _ h => h) (fun _ _ h => h)
    (fun c s t hs h => exec_keeps (P := Settled) (fun c s _ h => (effect_settled c h).of_frame (pump_only _))
      (fun s h => h.of_frame (frameSent_only s)) (fun e s h => h.of_frame (enterReset_only e s))
      (fun s h => h.of_frame (losePower_only s)) (fun _ _ h => h) (fun _ _ _ => reset_settled) (fun _ _ _ h => h) hs h) hs h
  exact ⟨ht, ht.atRest.waits⟩

end Sys2Proof
end

section
/-! SUPPORT. The supply monitor: what a reading leaves of the run, the state and the settle counter, and the statements on it. -/

set_option Elab.async false

namespace Sys2Proof

open Sys2Proof.Machine

/-! ## The run (R136) -/

/-- The readings of the run once this one is counted, before a complete run is taken off. -/
def runCount (t : Tables) (u : Nat) (m : Supply) : Nat :=
  if sideOf t u = .none then 0 else if m.side = sideOf t u then m.count + 1 else 1

/-- The state on the side of a reading. -/
def excursion (t : Tables) (u : Nat) : MonitorState := if sideOf t u = .low then .low else .high

theorem debounce_eq (t : Tables) (u : Nat) (m : Supply) : debounce t u m = (sideOf t u, runCount t u m) := by
  unfold debounce runCount
  cases sideOf t u <;> rfl

/-- A run of three enters the state of its side; a run that counts readings has a side. -/
theorem runEnters_debounce (t : Tables) (u : Nat) (m : Supply) :
    runEnters (debounce t u m) = if 3 ≤ runCount t u m then some (excursion t u) else none := by
  rw [debounce_eq, runEnters]
  refine if_ctx_congr Iff.rfl (fun hcount => ?_) fun _ => rfl
  dsimp only
  unfold excursion
  cases hside : sideOf t u with
  | none => simp [runCount, hside] at hcount
  | low => rfl
  | high => rfl

theorem excursion_low_or_high (t : Tables) (u : Nat) : excursion t u = .low ∨ excursion t u = .high := by
  unfold excursion
  split
  · exact .inl rfl
  · exact .inr rfl

theorem runCount_le_succ (t : Tables) (u : Nat) (m : Supply) : runCount t u m ≤ m.count + 1 := by
  unfold runCount
  split_ifs <;> omega

/-- Where no run is open a reading opens one at most. -/
theorem runCount_le_one {t : Tables} {u : Nat} {m : Supply} (hside : m.side = .none) : runCount t u m ≤ 1 := by
  unfold runCount
  rw [hside]
  split_ifs with hnone hsame
  · exact Nat.zero_le _
  · exact absurd hsame.symm hnone
  · exact le_rfl

/-! ## The state and the settle counter, by the state that a reading finds (R136 to R139) -/

section
variable {t : Tables} {u : Nat} {m : Supply}

theorem take_of_normal (h : m.state = .normal) : m.take t u =
    if 3 ≤ runCount t u m then ⟨excursion t u, .none, 0, m.settle, u⟩
    else ⟨.normal, sideOf t u, runCount t u m, m.settle, u⟩ := by
  unfold Supply.take
  rw [h]
  dsimp only
  rw [runEnters_debounce, debounce_eq]
  by_cases hrun : 3 ≤ runCount t u m
  · simp only [if_pos hrun]
  · simp only [if_neg hrun]

theorem take_of_settling (h : m.state = .settling) : m.take t u =
    if 3 ≤ runCount t u m then ⟨excursion t u, .none, 0, m.settle, u⟩
    else ⟨if settleLength t ≤ m.settle + 1 then .normal else .settling, sideOf t u, runCount t u m, m.settle + 1, u⟩ := by
  unfold Supply.take
  rw [h]
  dsimp only
  rw [runEnters_debounce, debounce_eq]
  by_cases hrun : 3 ≤ runCount t u m
  · simp only [if_pos hrun]
  · simp only [if_neg hrun]

theorem take_of_low (h : m.state = .low) : m.take t u =
    if t.global .lowLeave ≤ (u : Int) then ⟨.settling, sideOf t u, runCount t u m, 0, u⟩
    else ⟨.low, m.side, m.count, m.settle, u⟩ := by
  unfold Supply.take
  rw [h]
  simp only [debounce_eq, leavesExcursion, decide_eq_true_eq]

theorem take_of_high (h : m.state = .high) : m.take t u =
    if (u : Int) ≤ t.global .highLeave then ⟨.settling, sideOf t u, runCount t u m, 0, u⟩
    else ⟨.high, m.side, m.count, m.settle, u⟩ := by
  unfold Supply.take
  rw [h]
  simp only [debounce_eq, leavesExcursion, decide_eq_true_eq]

/-- A reading found in NORMAL or SETTLING leads to LOW or HIGH where it completes a run (R136). -/
theorem take_enters_iff (h : m.state = .normal ∨ m.state = .settling) :
    (m.take t u).state = .low ∨ (m.take t u).state = .high ↔ 3 ≤ runCount t u m := by
  have hentered := excursion_low_or_high t u
  obtain h | h := h
  · rw [take_of_normal h]
    by_cases hrun : 3 ≤ runCount t u m <;> simp [hrun, hentered]
  · rw [take_of_settling h]
    by_cases hrun : 3 ≤ runCount t u m
    · simp [hrun, hentered]
    · simp only [if_neg hrun]
      split_ifs <;> simp [hrun]

end

/-! ## The event (R140, R145, R146) -/

theorem supplyReasons_supply (was now : MonitorState) (s : State) : (supplyReasons was now s).supply = s.supply :=
  (supplyReasons_only was now s).supply

/-- SUPPLY on every channel, and the record shown on a move to or from NORMAL (R140, log entry 14). -/
theorem supplyReasons_output (was now : MonitorState) (s : State) :
    (supplyReasons was now s).output =
      if now = was then s.output
      else if now = .normal then s.output.map fun o => (o.removeReason .supply).show
      else if was = .normal then s.output.map fun o => (o.addReason .supply).show
      else s.output.map (OutChan.addReason .supply) := by
  unfold supplyReasons
  rw [if_congr (eq_comm (a := was)) rfl rfl]
  split_ifs <;> rfl

/-- A reading is the move of the monitor with its reasons, and a notice where the state changed. -/
theorem takeReading_from_reasons (u : Nat) (s : State) :
    Only [.link] (supplyReasons s.supply.state (s.supply.take s.tables u).state (s.withSupply (s.supply.take s.tables u)))
      (takeReading u s) :=
  Only.ite (fun _ => .refl _ _) fun _ => post_only _ _

theorem takeReading_supply (u : Nat) (s : State) : (takeReading u s).supply = s.supply.take s.tables u := by
  rw [(takeReading_from_reasons u s).supply, supplyReasons_supply]
  rfl

theorem takeReading_output (u : Nat) (s : State) :
    (takeReading u s).output =
      if (s.supply.take s.tables u).state = s.supply.state then s.output
      else if (s.supply.take s.tables u).state = .normal then s.output.map fun o => (o.removeReason .supply).show
      else if s.supply.state = .normal then s.output.map fun o => (o.addReason .supply).show
      else s.output.map (OutChan.addReason .supply) := by
  rw [(takeReading_from_reasons u s).output, supplyReasons_output]
  rfl

theorem takeReading_postsJust (u : Nat) (s : State) :
    PostsJust (if (s.supply.take s.tables u).state = s.supply.state then [] else [.supplyState]) s (takeReading u s) := by
  have hreasons : (supplyReasons s.supply.state (s.supply.take s.tables u).state
      (s.withSupply (s.supply.take s.tables u))).link = s.link := (supplyReasons_only _ _ _).link
  unfold takeReading
  dsimp only
  split
  · exact .of_link hreasons
  · exact (PostsJust.post _ _).after hreasons

/-- Settles O35: the monitor by the state that the reading finds, the channels and the notice by whether the state changed. -/
theorem supplyReadingRule : Obligations.SupplyReadingRule := by
  intro millivolts s ha u shows m side count entered length
  obtain ⟨t, hx, honly, hsends⟩ := event_sends ha (takeReading_postsJust u s) (by split <;> decide)
  have hsupply : t.supply = m.take s.tables u := honly.supply.trans (takeReading_supply u s)
  have houtput := honly.output.trans (takeReading_output u s)
  rw [← hsupply] at houtput hsends
  refine ⟨t, hx, (takeReading_only u s).comp honly, ?_, houtput, hsends⟩
  rw [hsupply]
  cases hstate : m.state with
  | normal => exact take_of_normal hstate
  | low => exact take_of_low hstate
  | high => exact take_of_high hstate
  | settling => exact take_of_settling hstate

/-! ## The two completions (R136, R137, R139) -/

/-- A reading completes a run where it leads from NORMAL or SETTLING to LOW or HIGH. -/
theorem completesRun_iff (u : Nat) (s : State) :
    completesRun u s = true ↔ (s.supply.state = .normal ∨ s.supply.state = .settling) ∧
      ((s.supply.take s.tables u).state = .low ∨ (s.supply.take s.tables u).state = .high) := by
  rw [completesRun, Bool.and_eq_true, Bool.or_eq_true, decide_eq_true_eq, decide_eq_true_eq]
  refine and_congr_right fun hstate => ?_
  rw [take_enters_iff hstate, runEnters_debounce]
  split_ifs with hrun <;> simp [hrun]

theorem completesSettle_iff (u : Nat) (s : State) :
    completesSettle u s = true ↔ s.supply.state = .settling ∧ (s.supply.take s.tables u).state = .normal := by
  rw [completesSettle, Bool.and_eq_true, decide_eq_true_eq, decide_eq_true_eq]

/-- An event that is there under a condition alone (log entry 2). -/
theorem event_if {s : State} (ha : Awake s) {b : State → Bool} {p : Prop} [Decidable p] (hp : b s = true ↔ p)
    (f : State → State) :
    event (fun s => if b s then f s else s) s = .next (if p then pump (f s) else s) := by
  rw [← if_congr hp rfl rfl]
  cases hb : b s with
  | true => simp [event_next ha.1, hb]
  | false =>
    have hsame : (if b s = true then f s else s) = s := by simp [hb]
    exact (event_quiet (f := fun s => if b s then f s else s) ha (congrArg State.link hsame)).trans (by simp [hb])

/-- Settles O36: each row's condition, read off the state that the reading leaves. -/
theorem runAndSettleCompletions : Obligations.RunAndSettleCompletions := by
  intro millivolts s ha
  have hsupply : (pump (takeReading (readingOf millivolts) s)).supply = s.supply.take s.tables (readingOf millivolts) :=
    (pump_only _).supply.trans (takeReading_supply _ s)
  refine ⟨pump (takeReading (readingOf millivolts) s), event_next ha.1 _, ?_, ?_⟩ <;> rw [hsupply]
  · exact event_if ha (completesRun_iff _ s) _
  · exact event_if ha (completesSettle_iff _ s) _

end Sys2Proof
end

section
/-! SUPPORT. SUPPLY, STARTUP and DISABLED in the close-reason sets: what each operation on a channel leaves of them. -/

set_option Elab.async false

namespace Sys2Proof

open Sys2Proof.Machine

/-! ## The three reasons in a set (R59, R70, R140, R174) -/

/-- SUPPLY, STARTUP and DISABLED stand in a set as their owners say. -/
structure Owners (supply startup disabled : Bool) (r : Reasons) : Prop where
  supply : r.supply = supply
  startup : r.startup = startup
  disabled : r.disabled = disabled

/-- They stand so on a channel, and SUPPLY in the set that a QUERY shows (R140). -/
structure OwnersIn (supply startup disabled : Bool) (o : OutChan) : Prop where
  stand : Owners supply startup disabled o.fader.reasons
  shown : o.shown.reasons.supply = supply

section
variable {su st di : Bool}

theorem Owners.put {r : Reasons} (h : Owners su st di r) (x : Reason) (b : Bool) :
    Owners (if x = .supply then b else su) (if x = .startup then b else st) (if x = .disabled then b else di)
      (r.put x b) := by
  obtain ⟨rfl, rfl, rfl⟩ := h
  cases x <;> exact ⟨rfl, rfl, rfl⟩

theorem put_has_same {r : Reasons} {x : Reason} {b : Bool} (h : r.has x = b) : r.put x b = r := by
  subst h
  cases x <;> rfl

/-- A reason removed is absent from the set, and DELAY may have taken its place (R62, R68). -/
theorem removeReason_reasons (x : Reason) (o : OutChan) :
    (o.removeReason x).fader.reasons = o.fader.reasons.put x false ∨
      (o.removeReason x).fader.reasons = (o.fader.reasons.put x false).put .delay true := by
  cases h : o.fader.reasons.has x with
  | false => rw [removeReason_of_absent h, put_has_same h]; exact .inl rfl
  | true =>
    cases hrest : (o.fader.reasons.put x false).isEmpty with
    | false => rw [removeReason_of_rest h hrest]; exact .inl rfl
    | true =>
      by_cases hd : o.pendingDelay = none
      · rw [removeReason_of_last h hrest hd]; exact .inl rfl
      · rw [removeReason_of_pending h hrest hd]; exact .inr rfl

theorem removeReason_shown (x : Reason) (o : OutChan) : (o.removeReason x).shown = o.shown := by
  unfold OutChan.removeReason
  dsimp only
  split_ifs <;> rfl

theorem Owners.add {o : OutChan} (h : Owners su st di o.fader.reasons) (x : Reason) :
    Owners (if x = .supply then true else su) (if x = .startup then true else st) (if x = .disabled then true else di)
      (o.addReason x).fader.reasons := h.put x true

theorem Owners.remove {o : OutChan} (h : Owners su st di o.fader.reasons) (x : Reason) :
    Owners (if x = .supply then false else su) (if x = .startup then false else st) (if x = .disabled then false else di)
      (o.removeReason x).fader.reasons := by
  obtain hr | hr := removeReason_reasons x o <;> rw [hr]
  · exact h.put x false
  · exact (h.put x false).put .delay true

/-! ## One record -/

/-- A record that is shown shows SUPPLY as it stands. -/
theorem Owners.show {o : OutChan} (h : Owners su st di o.fader.reasons) : OwnersIn su st di o.show := ⟨h, h.supply⟩

theorem OwnersIn.congr {o p : OutChan} (h : OwnersIn su st di o) (hf : p.fader.reasons = o.fader.reasons)
    (hs : p.shown = o.shown) : OwnersIn su st di p := ⟨hf ▸ h.stand, hs ▸ h.shown⟩

/-- FAULT and DELAY come without bearing on the other three. -/
theorem OwnersIn.add {o : OutChan} (h : OwnersIn su st di o) {x : Reason} (hx : x = .fault ∨ x = .delay) :
    OwnersIn su st di (o.addReason x) := by
  obtain rfl | rfl := hx
  · exact ⟨h.stand.add .fault, h.shown⟩
  · exact ⟨h.stand.add .delay, h.shown⟩

/-- FAULT goes without bearing on the other three. -/
theorem OwnersIn.removeFault {o : OutChan} (h : OwnersIn su st di o) : OwnersIn su st di (o.removeReason .fault) :=
  ⟨h.stand.remove .fault, by rw [removeReason_shown]; exact h.shown⟩

theorem OwnersIn.removeStartup {o : OutChan} (h : OwnersIn su st di o) : OwnersIn su false di (o.removeReason .startup) :=
  ⟨h.stand.remove .startup, by rw [removeReason_shown]; exact h.shown⟩

theorem OwnersIn.openFader {o : OutChan} (h : OwnersIn su st di o) (slew : Int) : OwnersIn su st di (openFader slew o) := by
  unfold Machine.openFader
  split
  · exact Owners.show (o := { o with fader := { o.fader with level := _, state := _ } }) h.stand
  · exact h

theorem OwnersIn.closeFader {o : OutChan} (h : OwnersIn su st di o) (slew : Int) : OwnersIn su st di (closeFader slew o) := by
  refine h.congr (closeFader_reasons slew o) ?_
  unfold Machine.closeFader
  dsimp only
  split_ifs <;> rfl

theorem OwnersIn.countClip {o : OutChan} (h : OwnersIn su st di o) : OwnersIn su st di (countClip o) := by
  unfold Machine.countClip
  split <;> exact h.congr rfl rfl

/-- The pending delay gone in, DELAY is removed and the record shown (R67). -/
theorem OwnersIn.delayGone {o : OutChan} (h : OwnersIn su st di o) : OwnersIn su st di (delayGone o) := by
  unfold Machine.delayGone
  split
  · exact Owners.show (Owners.remove (o := { o with pendingDelay := none }) h.stand .delay)
  · exact h

theorem OwnersIn.writeDelay {o : OutChan} (h : OwnersIn su st di o) (applied v : Nat) :
    OwnersIn su st di (o.writeDelay applied v) := by
  have hstarted : OwnersIn su st di { o with pendingDelay := some v } := h.congr rfl rfl
  have hadded := hstarted.add (.inr rfl)
  unfold OutChan.writeDelay
  split
  · exact h
  · dsimp only
    split
    · exact hstarted
    · split
      · exact hstarted
      · exact hadded
    · exact hadded
    · exact hadded

/-- DISABLED follows the enabled field (R10, R70). -/
theorem OwnersIn.writeEnabled {was : Bool} {o : OutChan} (h : OwnersIn su st (!was) o) (now : Bool) :
    OwnersIn su st (!now) (o.writeEnabled was now) := by
  rw [writeEnabled_eq]
  cases was <;> cases now
  · exact h
  · exact ⟨h.stand.remove .disabled, by rw [removeReason_shown]; exact h.shown⟩
  · exact ⟨h.stand.add .disabled, h.shown⟩
  · exact h

end

/-! ## What keeps the three reasons on every channel -/

/-- Every channel after the event has the three reasons as it had them. -/
def KeepsOwners (s t : State) : Prop :=
  t.output.length = s.output.length ∧
    ∀ c, c < s.output.length → ∀ su st di, OwnersIn su st di (s.outChan c) → OwnersIn su st di (t.outChan c)

theorem KeepsOwners.refl (s : State) : KeepsOwners s s := ⟨rfl, fun _ _ _ _ _ h => h⟩

theorem KeepsOwners.trans {s t u : State} (h : KeepsOwners s t) (h' : KeepsOwners t u) : KeepsOwners s u := by
  obtain ⟨hlen, hkeep⟩ := h
  obtain ⟨hlen', hkeep'⟩ := h'
  exact ⟨hlen'.trans hlen, fun c hc su st di ho => hkeep' c (hc.trans_eq hlen.symm) su st di (hkeep c hc su st di ho)⟩

theorem KeepsOwners.ite {s t u : State} {p : Prop} [Decidable p] (h : p → KeepsOwners s t) (h' : ¬p → KeepsOwners s u) :
    KeepsOwners s (if p then t else u) := by
  split
  · exact h ‹_›
  · exact h' ‹_›

theorem KeepsOwners.of_output {s t : State} (h : t.output = s.output) : KeepsOwners s t := by
  have hchan : t.outChan = s.outChan := by funext c; rw [State.outChan, h, State.outChan]
  exact ⟨by rw [h], fun c _ _ _ _ ho => hchan ▸ ho⟩

theorem KeepsOwners.of_only {l : List Block} {s t : State} (h : Only l s t) (ho : Block.output ∉ l := by decide) :
    KeepsOwners s t := .of_output (h.output ho)

theorem mapOut_keepsOwners {f : OutChan → OutChan} (hf : ∀ o su st di, OwnersIn su st di o → OwnersIn su st di (f o))
    (s : State) : KeepsOwners s (s.mapOut f) :=
  ⟨List.length_map _, fun c hc su st di h => by rw [mapOut_outChan hc]; exact hf _ su st di h⟩

theorem zipOut_keepsOwners {f : OutChan × Nat → OutChan}
    (hf : ∀ o c su st di, OwnersIn su st di o → OwnersIn su st di (f (o, c))) (s : State) :
    KeepsOwners s (s.withOutput (s.output.zipIdx.map f)) := by
  refine ⟨by simp, fun c hc su st di h => ?_⟩
  have hchan : (s.withOutput (s.output.zipIdx.map f)).outChan c = f (s.outChan c, c) :=
    getD_zipIdx_map hc f OutChan.reset OutChan.reset
  rw [hchan]
  exact hf _ _ su st di h

theorem modifyOut_keepsOwners {f : OutChan → OutChan} (hf : ∀ o su st di, OwnersIn su st di o → OwnersIn su st di (f o))
    (d : Nat) (s : State) : KeepsOwners s (s.modifyOut d f) := by
  refine ⟨List.length_modify _ _ _, fun c hc su st di h => ?_⟩
  by_cases hd : d = c
  · subst hd
    rw [modifyOut_outChan_same hc]
    exact hf _ su st di h
  · rwa [modifyOut_outChan_other hd]

/-! The integrity checker: FAULT is added and removed (R151, R153). -/

theorem clearFault_keepsOwners (i : Nat) (s : State) : KeepsOwners s (clearFault i s) :=
  .ite (fun _ => modifyOut_keepsOwners (fun _ _ _ _ h => h.removeFault) _ s) fun _ => .refl s

theorem recordTransition_keepsOwners (i : Nat) (x : SetState) (r : Bool) (s : State) :
    KeepsOwners s (recordTransition i x r s) := .of_only (recordTransition_only i x r s)

theorem examine_keepsOwners (i : Nat) (s : State) : KeepsOwners s (examine i s) := by
  have hfault : ∀ o su st di, OwnersIn su st di o → OwnersIn su st di (o.addReason .fault).show :=
    fun _ _ _ _ h => (h.stand.add .fault).show
  refine .ite (fun _ => ?_) fun _ => .refl s
  refine KeepsOwners.trans ?_ (recordTransition_keepsOwners _ _ _ _)
  exact .ite (fun _ => modifyOut_keepsOwners hfault _ _) fun _ => .of_output rfl

theorem scan_keepsOwners (s : State) : KeepsOwners s (scan s) := (examine_keepsOwners _ s).trans (.of_output rfl)

theorem eqBoundary_keepsOwners (s : State) : KeepsOwners s (eqBoundary s) := by
  have hchecks : ∀ (l : List Nat) (s : State), KeepsOwners s (l.foldl (fun s i => examine i s) s) := by
    intro l
    induction l with
    | nil => exact .refl
    | cons i l ih => exact fun s => (examine_keepsOwners i s).trans (ih _)
  exact hchecks _ _

theorem readOutcome_keepsOwners (r : ReadRec) (ok : Bool) (s : State) : KeepsOwners s (readOutcome r ok s) := by
  refine .ite (fun _ => .refl s) fun _ => ?_
  split
  · exact .of_only (restoreFails_only _ s)
  · refine .ite (fun _ => ?_) fun _ => .of_only ((modifySet_only _ _ s).comp (restoreFails_only _ _) (n := [.integrity, .link]))
    refine KeepsOwners.trans ?_ (recordTransition_keepsOwners _ _ _ _)
    exact clearFault_keepsOwners _ _

theorem completeRead_keepsOwners (ok : Bool) (s : State) : KeepsOwners s (completeRead ok s) := by
  unfold completeRead
  split
  · exact .refl s
  · refine KeepsOwners.trans ?_ (.of_only (grantNext_only _))
    exact readOutcome_keepsOwners _ _ _

theorem leaveForGood_keepsOwners (was : SetState) (i : Nat) (s : State) : KeepsOwners s (leaveForGood was i s) := by
  have hclear : ∀ u, KeepsOwners u (recordTransition i .good false (clearFault i u)) := fun u =>
    (clearFault_keepsOwners i u).trans (recordTransition_keepsOwners _ _ _ _)
  cases was with
  | good => exact .refl s
  | suspect => exact hclear _
  | restoring => exact (KeepsOwners.of_only (discardRead_only i s)).trans (hclear _)
  | failed => exact hclear s

theorem writeSets_keepsOwners (byHost : Bool) : ∀ (i : Nat) (l : List Words) (s : State),
    KeepsOwners s (writeSets byHost i l s)
  | _, [], s => .refl s
  | i, _ :: rest, s =>
    ((KeepsOwners.of_only (modifySet_only i _ s)).trans (leaveForGood_keepsOwners _ _ _)).trans
      (writeSets_keepsOwners byHost (i + 1) rest _)

/-! The boundaries and the sample period (R20, R63, R64, R67). -/

theorem rampUnitBoundary_keepsOwners (s : State) : KeepsOwners s (rampUnitBoundary s) := by
  have hmove : ∀ u, KeepsOwners u (moveAll u) := fun u => mapOut_keepsOwners (fun _ _ _ _ h => h.openFader _) _
  have hadvance : KeepsOwners s (advanceDivider (clampApplied s)) := .ite (fun _ => hmove _) fun _ => .of_output rfl
  exact (hadvance.trans (.of_only (checkDrain_only _ _))).trans (.of_only (checkDrain_only _ _))

theorem applyDelays_keepsOwners (s : State) : KeepsOwners s (applyDelays s) :=
  mapOut_keepsOwners (fun _ _ _ _ h => h.delayGone) _

theorem outputBoundary_keepsOwners (s : State) : KeepsOwners s (outputBoundary s) := by
  have hclosed : KeepsOwners s (s.mapOut (closeFader (s.tables.global .fastSlew))) :=
    mapOut_keepsOwners (fun _ _ _ _ h => h.closeFader _) s
  have hpolarity : ∀ u, KeepsOwners u (takePolarity u) := fun u =>
    zipOut_keepsOwners (fun _ _ _ _ _ h => by exact h.congr rfl rfl) u
  have hclips : ∀ u, KeepsOwners u (countClips u) := fun u =>
    .ite (fun _ => (mapOut_keepsOwners (fun _ _ _ _ h => h.countClip) u).trans (.of_only (post_only _ _))) fun _ => .refl u
  have hshown : ∀ u : State, KeepsOwners u (u.mapOut OutChan.show) := mapOut_keepsOwners fun _ _ _ _ h => h.stand.show
  exact (((hclosed.trans (hpolarity _)).trans (hclips _)).trans (applyDelays_keepsOwners _)).trans (hshown _)

theorem samplePeriod_keepsOwners (p : Ports) (s : State) : KeepsOwners s (samplePeriod p s) :=
  zipOut_keepsOwners (fun _ _ _ _ _ h => h.congr rfl rfl) s

/-! Numbers written, the counters, the transmitter. -/

theorem acceptNums_keepsOwners (id : TableId) (first k : Nat) (l : List Int) (s : State) :
    KeepsOwners s (acceptNums id first k l s) := by
  cases id
  case globals =>
    obtain ⟨honly, -⟩ := acceptNums_globals_acts first k l s
    exact .of_only honly
  case delay =>
    refine zipOut_keepsOwners (fun o c su st di h => ?_) _
    dsimp only
    split
    · exact h.writeDelay _ _
    · exact h
  all_goals exact .of_output rfl

theorem handleCounters_keepsOwners (p : List Byte) (s : State) : KeepsOwners s (handleCounters p s).state := by
  unfold handleCounters
  split
  · exact .ite (fun _ => mapOut_keepsOwners (fun _ _ _ _ h => by exact h.congr rfl rfl) _) fun _ => .refl s
  · exact .refl s

theorem beginNotice_keepsOwners (s : State) : KeepsOwners s (beginNotice s) := by
  unfold beginNotice
  split
  · exact .refl s
  · exact .ite (fun _ => mapOut_keepsOwners (fun _ _ _ _ h => by exact h.congr rfl rfl) _) fun _ => .of_output rfl

theorem beginNext_keepsOwners (s : State) : KeepsOwners s (beginNext s) :=
  .ite (fun _ => .of_only (beginReply_only s)) fun _ => beginNotice_keepsOwners s

theorem pump_keepsOwners (s : State) : KeepsOwners s (pump s) :=
  .ite (fun _ => .refl s) fun _ => .ite
    (fun _ => .ite (fun _ => beginNotice_keepsOwners _) fun _ =>
      .of_only ((withDraws_only s _).comp (beginReply_only _) (n := [.draws, .link])))
    fun _ => beginNext_keepsOwners s

end Sys2Proof
end

section
/-! SUPPORT. Every step keeps SUPPLY, STARTUP and DISABLED in accordance with the states of their owners. -/

set_option Elab.async false

namespace Sys2Proof

open Sys2Proof.Machine

/-! ## The monitor (R135, R136) -/

/-- What SupplyOk says of the monitor alone. -/
structure MonitorOk (m : Supply) : Prop where
  count : m.count ≤ 2
  noRun : m.state = .low ∨ m.state = .high → m.side = .none ∧ m.count = 0

/-- A run of three is taken off, and LOW and HIGH are entered and kept without a run. -/
theorem MonitorOk.take {m : Supply} (h : MonitorOk m) (t : Tables) (u : Nat) : MonitorOk (m.take t u) := by
  have hentered : MonitorOk ⟨excursion t u, .none, 0, m.settle, u⟩ := ⟨Nat.zero_le _, fun _ => ⟨rfl, rfl⟩⟩
  have hleft : m.state = .low ∨ m.state = .high → MonitorOk ⟨.settling, sideOf t u, runCount t u m, 0, u⟩ := fun hstate =>
    ⟨(runCount_le_one (h.noRun hstate).1).trans (by decide), by simp⟩
  cases hstate : m.state with
  | normal =>
    rw [take_of_normal hstate]
    split_ifs with hrun
    · exact hentered
    · exact ⟨by dsimp only; omega, by simp⟩
  | settling =>
    rw [take_of_settling hstate]
    split_ifs with hrun
    · exact hentered
    · exact ⟨by dsimp only; omega, by simp⟩
    · exact ⟨by dsimp only; omega, by simp⟩
  | low =>
    rw [take_of_low hstate]
    split_ifs
    · exact hleft (.inl hstate)
    · exact ⟨h.count, fun _ => h.noRun (.inl hstate)⟩
  | high =>
    rw [take_of_high hstate]
    split_ifs
    · exact hleft (.inr hstate)
    · exact ⟨h.count, fun _ => h.noRun (.inr hstate)⟩

/-! ## The invariant, channel by channel -/

theorem forall_output_iff {s : State} {P : OutChan → Prop} :
    (∀ o ∈ s.output, P o) ↔ ∀ c, c < s.output.length → P (s.outChan c) := by
  rw [List.forall_mem_iff_forall_getElem]
  refine forall_congr' fun c => forall_congr' fun hc => ?_
  rw [State.outChan, List.getD_eq_getElem _ _ hc]

/-- A channel's reasons stand as the states of their owners say. -/
def ChannelFollows (s : State) (c : Nat) : Prop :=
  OwnersIn (decide (s.supply.state ≠ .normal)) (decide (s.startup.state ≠ .running)) (!(s.tables.routeOf c).enabled)
    (s.outChan c)

theorem reasonsOk_iff (s : State) : ReasonsOk s ↔
    MonitorOk s.supply ∧ (s.store.running = some .load → s.startup.state = .loading) ∧ s.output.length = 24 ∧
      ∀ c, c < s.output.length → ChannelFollows s c := by
  unfold ReasonsOk SupplyOk StartupOk DisabledOk
  rw [forall_output_iff, forall_output_iff]
  constructor
  · rintro ⟨⟨hsupply, hcount, hrun⟩, ⟨hstartup, hload⟩, hlen, hdisabled⟩
    exact ⟨⟨hcount, hrun⟩, hload, hlen, fun c hc =>
      ⟨⟨(hsupply c hc).1, hstartup c hc, hdisabled c (hc.trans_eq hlen)⟩, (hsupply c hc).2⟩⟩
  · rintro ⟨⟨hcount, hrun⟩, hload, hlen, hchan⟩
    exact ⟨⟨fun c hc => ⟨(hchan c hc).stand.supply, (hchan c hc).shown⟩, hcount, hrun⟩,
      ⟨fun c hc => (hchan c hc).stand.startup, hload⟩, hlen, fun c hc => (hchan c (hc.trans_eq hlen.symm)).stand.disabled⟩

/-- LOAD does not begin. -/
def BeginsNoLoad (s t : State) : Prop := t.store.running = some .load → s.store.running = some .load

theorem BeginsNoLoad.of_idle {s t : State} (h : t.store.running ≠ some .load) : BeginsNoLoad s t := fun hload => absurd hload h

theorem BeginsNoLoad.of_store {s t : State} (h : t.store = s.store) : BeginsNoLoad s t := fun hload => h ▸ hload

/-- The invariant stands where the owners' states and the channels' three reasons do. -/
theorem ReasonsOk.keep {s t : State} (hs : ReasonsOk s) (h : KeepsOwners s t) (hsupply : t.supply = s.supply)
    (hstartup : t.startup.state = s.startup.state) (hroute : t.tables.route = s.tables.route) (hload : BeginsNoLoad s t) :
    ReasonsOk t := by
  obtain ⟨hmonitor, hloading, hlen, hchan⟩ := (reasonsOk_iff s).mp hs
  obtain ⟨hlen', hkeep⟩ := h
  refine (reasonsOk_iff t).mpr ⟨hsupply ▸ hmonitor, fun hl => hstartup.trans (hloading (hload hl)), hlen'.trans hlen,
    fun c hc => ?_⟩
  have hc' : c < s.output.length := hc.trans_eq hlen'
  have hkept := hkeep c hc' _ _ _ (hchan c hc')
  unfold ChannelFollows Tables.routeOf
  rwa [hsupply, hstartup, hroute]

theorem ReasonsOk.of_store {l : List Block} {s t : State} (hs : ReasonsOk s) (h : Only l s t) (ho : KeepsOwners s t)
    (hload : BeginsNoLoad s t) (hb : ∀ b ∈ [Block.supply, .startup, .tables], b ∉ l := by decide) : ReasonsOk t :=
  hs.keep ho (h.supply (hb _ (by decide))) (by rw [h.startup (hb _ (by decide))]) (by rw [h.tables (hb _ (by decide))]) hload

theorem ReasonsOk.of_owners {l : List Block} {s t : State} (hs : ReasonsOk s) (h : Only l s t) (ho : KeepsOwners s t)
    (hb : ∀ b ∈ [Block.supply, .startup, .tables], b ∉ l := by decide) (hst : Block.store ∉ l := by decide) : ReasonsOk t :=
  hs.of_store h ho (.of_store (h.store hst)) hb

theorem ReasonsOk.of_frame {l : List Block} {s t : State} (hs : ReasonsOk s) (h : Only l s t)
    (hb : ∀ b ∈ [Block.supply, .startup, .tables], b ∉ l := by decide) (hst : Block.store ∉ l := by decide)
    (ho : Block.output ∉ l := by decide) : ReasonsOk t := hs.of_owners h (.of_only h ho) hb hst

/-! ## Readings (R140, R145) -/

/-- A move of the monitor that brings SUPPLY on every channel in accordance with its new state. -/
theorem ReasonsOk.of_monitor {s t : State} (hs : ReasonsOk s) (h : Only [.supply, .output, .link] s t)
    (hm : MonitorOk t.supply) {f : OutChan → OutChan} (hout : t.output = s.output.map f)
    (hf : ∀ o st di, OwnersIn (decide (s.supply.state ≠ .normal)) st di o →
      OwnersIn (decide (t.supply.state ≠ .normal)) st di (f o)) : ReasonsOk t := by
  obtain ⟨-, hloading, hlen, hchan⟩ := (reasonsOk_iff s).mp hs
  have hlen' : t.output.length = s.output.length := by rw [hout, List.length_map]
  refine (reasonsOk_iff t).mpr ⟨hm, by rwa [h.store, h.startup], hlen'.trans hlen, fun c hc => ?_⟩
  have hc' : c < s.output.length := hc.trans_eq hlen'
  unfold ChannelFollows
  rw [h.startup, h.tables, State.outChan, hout, getD_map_of_lt hc' f OutChan.reset]
  exact hf _ _ _ (hchan c hc')

/-- SUPPLY comes with the move out of NORMAL and goes with the move into it; between the other states it is there already. -/
theorem takeReading_reasonsOk (u : Nat) {s : State} (hs : ReasonsOk s) : ReasonsOk (takeReading u s) := by
  have hsupply := takeReading_supply u s
  have hm : MonitorOk (takeReading u s).supply := by
    rw [hsupply]
    exact ((reasonsOk_iff s).mp hs).1.take _ _
  have hout := takeReading_output u s
  rw [← hsupply] at hout
  split_ifs at hout with hsame hnormal hwas
  · exact hs.of_monitor (takeReading_only u s) hm (hout.trans (List.map_id _).symm) fun o st di h => by rwa [hsame]
  · refine hs.of_monitor (takeReading_only u s) hm hout fun o st di h => ?_
    rw [hnormal]
    exact (h.stand.remove .supply).show
  · refine hs.of_monitor (takeReading_only u s) hm hout fun o st di h => ?_
    rw [decide_eq_true hnormal]
    exact (h.stand.add .supply).show
  · refine hs.of_monitor (takeReading_only u s) hm hout fun o st di h => ?_
    rw [decide_eq_true hnormal]
    exact ⟨h.stand.add .supply, h.shown.trans (decide_eq_true hwas)⟩

/-! ## Writes of tables (R10, R70) -/

theorem putNums_route (t : Tables) (id : TableId) (l : List Int) : (t.putNums id l).route = t.route := by
  cases id <;> rfl

theorem acceptNums_reasonsOk (id : TableId) (first k : Nat) (l : List Int) {s : State} (hs : ReasonsOk s) :
    ReasonsOk (acceptNums id first k l s) := by
  have honly := acceptNums_only id first k l s
  refine hs.keep (acceptNums_keepsOwners id first k l s) honly.supply (by rw [honly.startup]) ?_ (.of_store honly.store)
  rw [acceptNums_tables, putNums_route]

theorem acceptCurve_reasonsOk (l : List CurvePoint) {s : State} (hs : ReasonsOk s) : ReasonsOk (acceptCurve l s) :=
  hs.keep (.of_only (acceptCurve_only l s)) rfl rfl rfl (.of_store rfl)

theorem acceptClasses_reasonsOk (l : List ClassEntry) {s : State} (hs : ReasonsOk s) : ReasonsOk (acceptClasses l s) := by
  have honly := acceptClasses_only l s
  refine hs.keep (.of_only honly) honly.supply (by rw [honly.startup]) ?_ (.of_store honly.store)
  rw [acceptClasses_tables]

/-- A written CH_ROUTE and DISABLED change together. -/
theorem acceptRoute_reasonsOk (l : List Route) {s : State} (hs : ReasonsOk s) : ReasonsOk (acceptRoute l s) := by
  obtain ⟨hmonitor, hloading, hlen, hchan⟩ := (reasonsOk_iff s).mp hs
  have hlen' : (acceptRoute l s).output.length = s.output.length := (acceptRoute_keepsCounts l s).1
  refine (reasonsOk_iff _).mpr ⟨hmonitor, hloading, hlen'.trans hlen, fun c hc => ?_⟩
  have hc' : c < s.output.length := hc.trans_eq hlen'
  unfold ChannelFollows
  rw [acceptRoute_outChan l hc']
  exact (hchan c hc').writeEnabled _

theorem writeSets_reasonsOk (byHost : Bool) (i : Nat) (l : List Words) {s : State} (hs : ReasonsOk s) :
    ReasonsOk (writeSets byHost i l s) := hs.of_owners (writeSets_only byHost i l s) (writeSets_keepsOwners byHost i l s)

theorem TableAct.reasonsOk {s t : State} (h : TableAct s t) (hs : ReasonsOk s) : ReasonsOk t := by
  cases h with
  | refused => exact hs
  | curve l => exact acceptCurve_reasonsOk l hs
  | classes l => exact acceptClasses_reasonsOk l hs
  | route l => exact acceptRoute_reasonsOk l hs
  | sets i ws => exact writeSets_reasonsOk true i ws hs
  | numbers id first k l _ => exact acceptNums_reasonsOk id first k l hs

theorem handlePatchPut_reasonsOk (p : List Byte) {s : State} (hs : ReasonsOk s) : ReasonsOk (handlePatchPut p s).state := by
  obtain ⟨u, hact, honly⟩ := handlePatchPut_acts p s
  exact (hact.reasonsOk hs).of_frame honly

/-! ## The store's operations (R164, R165) -/

theorem beginRead_beginsNoLoad (s : State) : BeginsNoLoad s (beginRead s) := by
  unfold beginRead
  split
  · exact .of_store rfl
  · refine .of_idle ?_
    rw [(recordTransition_only _ _ _ _).store]
    nofun

theorem beginHost_beginsNoLoad (s : State) : BeginsNoLoad s (beginHost s) := by
  unfold beginHost
  split
  · exact .of_store rfl
  · exact .of_idle nofun

theorem grantNext_beginsNoLoad (s : State) : BeginsNoLoad s (grantNext s) := by
  unfold grantNext
  split
  · exact beginRead_beginsNoLoad s
  · exact beginHost_beginsNoLoad s

/-- A controller that an event has freed begins no LOAD. -/
theorem grantNext_of_freed {s u : State} (h : u.store.running = none) : BeginsNoLoad s (grantNext u) :=
  .of_idle fun hload => by cases h.symm.trans (grantNext_beginsNoLoad u hload)

theorem completeRead_beginsNoLoad (ok : Bool) (s : State) : BeginsNoLoad s (completeRead ok s) := by
  unfold completeRead
  split
  · exact .of_store rfl
  · refine grantNext_of_freed ?_
    rw [(readOutcome_only _ _ _).store]
    rfl

theorem acceptHost_beginsNoLoad (op : HostOp) (s : State) : BeginsNoLoad s (acceptHost op s) := by
  unfold acceptHost
  split
  · exact .of_idle nofun
  · exact id

theorem handleSave_beginsNoLoad (p : List Byte) (s : State) : BeginsNoLoad s (handleSave p s).state := by
  unfold handleSave
  split
  · split
    · exact .of_store rfl
    · split
      · exact .of_store rfl
      · split
        · split
          · exact .of_store rfl
          · exact acceptHost_beginsNoLoad _ (markAccepted s)
        · split
          · exact acceptHost_beginsNoLoad _ s
          · exact acceptHost_beginsNoLoad _ s
  · exact .of_store rfl

theorem handleClose_beginsNoLoad (s : State) : BeginsNoLoad s (handleClose s).state := by
  unfold handleClose
  split_ifs
  · exact .of_store rfl
  · exact .of_store rfl
  · exact .of_store rfl
  · exact acceptHost_beginsNoLoad _ s

theorem hostDone_running (op : HostOp) (ok : Bool) (s : State) : (hostDone op ok s).store.running = none := by
  rw [hostDone, (post_only _ _).store]
  rfl

theorem completeSave_beginsNoLoad (ok : Bool) (s : State) : BeginsNoLoad s (completeSave ok s) := by
  unfold completeSave
  split
  · refine grantNext_of_freed ?_
    split
    · exact hostDone_running _ ok s
    · exact hostDone_running _ ok s
  · exact grantNext_of_freed (hostDone_running _ ok s)
  · exact grantNext_of_freed (hostDone_running _ ok s)
  · exact .of_store rfl

theorem completeClose_beginsNoLoad (ok : Bool) (s : State) : BeginsNoLoad s (completeClose ok s) := by
  unfold completeClose
  split
  · exact grantNext_of_freed (hostDone_running _ ok s)
  · exact .of_store rfl

/-! ## LOAD (R173, R174) -/

theorem placeAllNums_reasonsOk (f : FactoryImage) : ∀ (l : List TableId) {s : State}, ReasonsOk s →
    ReasonsOk (l.foldl (placeNums f) s)
  | [], _, hs => hs
  | _ :: l, _, hs => placeAllNums_reasonsOk f l (acceptNums_reasonsOk _ _ _ _ hs)

theorem placeFactory_reasonsOk (f : FactoryImage) {s : State} (hs : ReasonsOk s) : ReasonsOk (placeFactory f s) := by
  have hlevels := placeAllNums_reasonsOk f [.volume, .annVolume, .balance, .fade] hs
  have hrouted := acceptRoute_reasonsOk f.tables.route
    (acceptClasses_reasonsOk f.tables.classes (acceptCurve_reasonsOk f.tables.speedCurve hlevels))
  exact writeSets_reasonsOk _ _ _ (placeAllNums_reasonsOk f _ hrouted)

theorem patchStage_route (x : Tables × Nat) (r : PatchRec) : (patchStage x r).1.route = x.1.route := by
  unfold patchStage
  dsimp only
  split
  · exact putNums_route _ _ _
  · rfl

theorem patchStages_route : ∀ (l : List PatchRec) (x : Tables × Nat), (l.foldl patchStage x).1.route = x.1.route
  | [], _ => rfl
  | r :: l, x => (patchStages_route l (patchStage x r)).trans (patchStage_route x r)

theorem loadPlaced_reasonsOk {s : State} (hs : ReasonsOk s) : ReasonsOk (loadPlaced s) := by
  have hfreed : ReasonsOk (loadFreed s) := hs.of_store (withStore_only s _) (.of_output rfl) (.of_idle nofun)
  exact placeFactory_reasonsOk _ hfreed

theorem loadPatched_reasonsOk {s : State} (hs : ReasonsOk s) : ReasonsOk (loadPatched s) := by
  have honly := loadPatched_only s
  refine (loadPlaced_reasonsOk hs).keep (.of_only honly) honly.supply rfl ?_ (.of_store honly.store)
  rw [loadPlaced, placeFactory_tables]
  exact patchStages_route _ _

theorem loadUnplaced_reasonsOk {s : State} (hs : ReasonsOk s) : ReasonsOk (loadUnplaced s) :=
  hs.keep (.of_only (loadUnplaced_only s)) rfl rfl rfl (.of_idle nofun)

/-- STARTUP goes from every channel with the move to RUNNING, and stays with the move to TUNELESS. -/
theorem finishLoad_reasonsOk {s : State} (hs : ReasonsOk s) (hidle : s.store.running = none)
    (hloading : s.startup.state = .loading) : ReasonsOk (finishLoad s) := by
  obtain ⟨hmonitor, -, hlen, hchan⟩ := (reasonsOk_iff s).mp hs
  have honly := finishLoad_only s
  have hlen' : (finishLoad s).output.length = s.output.length := (finishLoad_keepsCounts s).1
  have hfreed : (finishLoad s).store.running ≠ some .load := by
    have hstore : (endLoading (placeScene s)).store.running = none := by
      rw [(endLoading_only _).store, (placeScene_only s).store, hidle]
    intro hload
    cases hidle.symm.trans (grantNext_of_freed (s := s) hstore hload)
  refine (reasonsOk_iff _).mpr ⟨by rw [honly.supply]; exact hmonitor, fun hload => absurd hload hfreed, hlen'.trans hlen,
    fun c hc => ?_⟩
  have hc' : c < s.output.length := hc.trans_eq hlen'
  have hwas := hchan c hc'
  have hout := finishLoad_output s
  have hnow := congrArg Startup.state (finishLoad_startup s)
  unfold ChannelFollows at hwas ⊢
  rw [hloading] at hwas
  rw [hnow, honly.supply, honly.tables, State.outChan, hout]
  dsimp only
  split
  · rw [getD_map_of_lt hc' _ OutChan.reset]
    exact hwas.removeStartup
  · exact hwas

theorem completeLoad_reasonsOk {s : State} (hs : ReasonsOk s) : ReasonsOk (completeLoad s) := by
  by_cases hload : s.store.running = some .load
  · have hloading : s.startup.state = .loading := hs.2.1.2 hload
    by_cases hv : s.store.factoryState = .valid
    · rw [completeLoad_valid hload hv]
      refine finishLoad_reasonsOk (loadPatched_reasonsOk hs) ?_ ?_
      · rw [(loadPatched_only s).store, loadPlaced_store]
      · have hstartup : (loadPlaced s).startup = s.startup := (placeFactory_only _ _).startup
        exact (congrArg Startup.state hstartup).trans hloading
    · rw [completeLoad_invalid hload hv]
      exact finishLoad_reasonsOk (loadUnplaced_reasonsOk hs) rfl hloading
  · rw [completeLoad, if_neg hload]
    exact hs

/-! ## Every event -/

theorem effect_reasonsOk (c : Instr) {s : State} (hs : ReasonsOk s) : ReasonsOk (effect c s) := by
  have request : ∀ {kind tag lengthOk ready} {handle : State → Handled},
      (∀ u, ReasonsOk u → ReasonsOk (handle u).state) → ReasonsOk (taken kind tag lengthOk ready handle s) :=
    fun hh => taken_keeps (P := ReasonsOk) (fun u _ h => h.of_frame (withLink_only u _)) hh hs _ _ _ _
  have ite : ∀ {t : State} {p : Prop} [Decidable p], ReasonsOk t → ReasonsOk (if p then t else s) := fun h => by
    split
    · exact h
    · exact hs
  have hramp : ReasonsOk (rampUnitBoundary s) := hs.of_owners (rampUnitBoundary_only s) (rampUnitBoundary_keepsOwners s)
  have hf := effect_only c s
  cases c
  all_goals dsimp only [touches] at hf
  case tableWrite p => exact request fun u => (handleTableWrite_acts p u).reasonsOk
  case patchPut p => exact request fun _ => handlePatchPut_reasonsOk p
  case save p =>
    exact request fun u h => h.of_store (handleSave_only p u) (.of_only (handleSave_only p u)) (handleSave_beginsNoLoad p u)
  case closeFactory =>
    exact request fun u h => h.of_store (handleClose_only u) (.of_only (handleClose_only u)) (handleClose_beginsNoLoad u)
  case counters p => exact request fun u h => h.of_owners (handleCounters_only p u) (handleCounters_keepsOwners p u)
  case rampBoundary => exact hramp
  case rampStep => exact ite hramp
  case outputStageStep => exact hs.of_owners hf (outputBoundary_keepsOwners s)
  case applyDelay => exact hs.of_owners hf (applyDelays_keepsOwners s)
  case eqBoundary => exact hs.of_owners hf (eqBoundary_keepsOwners s)
  case scannerCheck => exact hs.of_owners hf (scan_keepsOwners s)
  case readSetBegin =>
    exact ite (hs.of_store (beginRead_only s) (.of_only (beginRead_only s)) (beginRead_beginsNoLoad s))
  case readSetComplete ok => exact hs.of_store hf (completeRead_keepsOwners ok s) (completeRead_beginsNoLoad ok s)
  case supplyReading => exact takeReading_reasonsOk _ hs
  case runComplete => exact ite (takeReading_reasonsOk _ hs)
  case settleComplete => exact ite (takeReading_reasonsOk _ hs)
  case loadComplete => exact completeLoad_reasonsOk hs
  case hostOperationBegin =>
    exact ite (hs.of_store (beginHost_only s) (.of_only (beginHost_only s)) (beginHost_beginsNoLoad s))
  case saveComplete ok => exact hs.of_store hf (.of_only hf) (completeSave_beginsNoLoad ok s)
  case closeComplete ok => exact hs.of_store hf (.of_only hf) (completeClose_beginsNoLoad ok s)
  case samplePeriod p => exact hs.of_owners hf (samplePeriod_keepsOwners p s)
  all_goals exact hs.of_frame hf

/-! ## Reset (R168, R172) -/

theorem interrupted_running (st : Store) : st.interrupted.running = none := by
  unfold Store.interrupted
  dsimp only
  split <;> rfl

theorem enterReset_reasonsOk (e : Hold) {s : State} (hs : ReasonsOk s) : ReasonsOk (enterReset e s) := by
  refine hs.of_store (enterReset_only e s) (.of_only (enterReset_only e s)) (.of_idle ?_)
  have hidle : (enterReset e s).store.running = none := interrupted_running s.store
  rw [hidle]
  nofun

theorem frameSent_reasonsOk {s : State} (hs : ReasonsOk s) : ReasonsOk (frameSent s) := by
  unfold frameSent
  split
  · exact hs
  · split
    · exact enterReset_reasonsOk _ hs
    · exact (hs.of_frame (withLink_only s _)).of_owners (beginNext_only _) (beginNext_keepsOwners _)

/-- The monitor begins in SETTLING, the part in LOADING, and every channel disabled. -/
theorem release_reasonsOk (e : Hold) (s : State) : ReasonsOk (release e s) := by
  obtain ⟨hsupply, ⟨hstartup, -⟩, hdisabled⟩ := reset_reasonsOk
  exact ⟨hsupply, ⟨hstartup, fun _ => rfl⟩, hdisabled⟩

/-- Settles O8: each reason changes in the event that changes its owner's state, and in no other. -/
theorem reasonsFollowTheirOwners : Obligations.ReasonsFollowTheirOwners := by
  intro s t hs h
  refine step_keeps (P := ReasonsOk) (fun u _ h => h.of_frame (withPending_only u _))
    (fun _ _ h => h) (fun u _ h => h.of_frame (withLink_only u _)) (fun c s t hs h => ?_) hs h
  exact exec_keeps (P := ReasonsOk)
    (fun c s _ h => (effect_reasonsOk c h).of_owners (pump_only _) (pump_keepsOwners _)) (fun _ h => frameSent_reasonsOk h)
    (fun e _ h => enterReset_reasonsOk e h) (fun s h => (enterReset_reasonsOk _ h).of_frame (withHold_only _ _))
    (fun e s h => h.of_frame (withHold_only s _)) (fun e s _ => release_reasonsOk e s)
    (fun i f s h => h.of_store (withStore_only s _) (.of_output rfl) id) hs h

end Sys2Proof
end

section
/-! SUPPORT. What the invariants on the restore queue and on FAULT look at, and what every operation on the channels leaves of
FAULT. -/

set_option Elab.async false

namespace Sys2Proof

open Sys2Proof.Machine

/-! ## The states of the sets and the channels' FAULT (R148, R153) -/

/-- The states of the sets, in index order. -/
def setStates (s : State) : List SetState := s.integrity.sets.map (·.state)

/-- Whether FAULT stands on each channel. -/
def faultMarks (s : State) : List Bool := s.output.map (·.fader.reasons.fault)

theorem setStates_length (s : State) : (setStates s).length = s.integrity.sets.length := List.length_map _

theorem faultMarks_length (s : State) : (faultMarks s).length = s.output.length := List.length_map _

theorem setStates_getD (s : State) (i : Nat) : (setStates s).getD i .good = (s.coeffSet i).state :=
  List.getD_map _ CoeffSet.reset CoeffSet.state

theorem faultMarks_getD (s : State) (c : Nat) : (faultMarks s).getD c false = (s.outChan c).fader.reasons.fault :=
  List.getD_map _ OutChan.reset fun o => o.fader.reasons.fault

theorem coeffSet_state_of_same {s t : State} (h : setStates t = setStates s) (i : Nat) :
    (t.coeffSet i).state = (s.coeffSet i).state := by
  rw [← setStates_getD, h, setStates_getD]

theorem outChan_fault_of_same {s t : State} (h : faultMarks t = faultMarks s) (c : Nat) :
    (t.outChan c).fader.reasons.fault = (s.outChan c).fader.reasons.fault := by
  rw [← faultMarks_getD, h, faultMarks_getD]

/-! ## FAULT of one channel under each operation that is not its owner's (R59) -/

theorem addReason_fault (x : Reason) (o : OutChan) :
    (o.addReason x).fader.reasons.fault = if x = .fault then true else o.fader.reasons.fault := by
  cases x <;> rfl

theorem removeReason_fault (x : Reason) (o : OutChan) :
    (o.removeReason x).fader.reasons.fault = if x = .fault then false else o.fader.reasons.fault := by
  obtain h | h := removeReason_reasons x o <;> rw [h] <;> cases x <;> rfl

/-- An operation leaves FAULT of the record as it is. -/
def LeavesFault (f : OutChan → OutChan) : Prop := ∀ o, (f o).fader.reasons.fault = o.fader.reasons.fault

theorem LeavesFault.show {f : OutChan → OutChan} (h : LeavesFault f) : LeavesFault fun o => (f o).show := h

theorem addReason_leavesFault {x : Reason} (h : x ≠ .fault) : LeavesFault (OutChan.addReason x) := fun o =>
  (addReason_fault x o).trans (if_neg h)

theorem removeReason_leavesFault {x : Reason} (h : x ≠ .fault) : LeavesFault (OutChan.removeReason x) := fun o =>
  (removeReason_fault x o).trans (if_neg h)

theorem closeFader_leavesFault (slew : Int) : LeavesFault (closeFader slew) := fun o => by rw [closeFader_reasons]

theorem openFader_leavesFault (slew : Int) : LeavesFault (openFader slew) := fun o => by
  unfold openFader
  split <;> rfl

theorem countClip_leavesFault : LeavesFault countClip := fun o => by
  unfold countClip
  split <;> rfl

theorem delayGone_leavesFault : LeavesFault delayGone := fun o => by
  unfold delayGone
  split
  · exact removeReason_leavesFault (by decide) _
  · rfl

theorem writeDelay_leavesFault (applied v : Nat) : LeavesFault (OutChan.writeDelay applied v) := fun o => by
  rw [writeDelay_eq]
  dsimp only
  split_ifs
  · rfl
  · rfl
  · exact addReason_leavesFault (by decide) _

theorem writeEnabled_leavesFault (was now : Bool) : LeavesFault (OutChan.writeEnabled was now) := fun o => by
  rw [writeEnabled_eq]
  cases was <;> cases now
  · rfl
  · exact removeReason_leavesFault (by decide) _
  · exact addReason_leavesFault (by decide) _
  · rfl

/-! ## FAULT of all channels -/

/-- FAULT stands on the same channels as before. -/
def KeepsFault (s t : State) : Prop := faultMarks t = faultMarks s

theorem KeepsFault.refl (s : State) : KeepsFault s s := rfl

theorem KeepsFault.trans {s t u : State} (h : KeepsFault s t) (h' : KeepsFault t u) : KeepsFault s u := Eq.trans h' h

theorem KeepsFault.ite {s t u : State} {p : Prop} [Decidable p] (h : p → KeepsFault s t) (h' : ¬p → KeepsFault s u) :
    KeepsFault s (if p then t else u) := by
  split
  · exact h ‹_›
  · exact h' ‹_›

theorem KeepsFault.of_output {s t : State} (h : t.output = s.output) : KeepsFault s t :=
  congrArg (List.map fun o : OutChan => o.fader.reasons.fault) h

theorem KeepsFault.of_only {l : List Block} {s t : State} (h : Only l s t) (ho : Block.output ∉ l := by decide) :
    KeepsFault s t := .of_output (h.output ho)

theorem KeepsFault.of_map {s t : State} {f : OutChan → OutChan} (hf : LeavesFault f) (h : t.output = s.output.map f) :
    KeepsFault s t := by
  rw [KeepsFault, faultMarks, h, List.map_map]
  exact List.map_congr_left fun o _ => hf o

theorem mapOut_keepsFault {f : OutChan → OutChan} (hf : LeavesFault f) (s : State) : KeepsFault s (s.mapOut f) := .of_map hf rfl

theorem zipOut_keepsFault {f : OutChan × Nat → OutChan} (hf : ∀ c, LeavesFault fun o => f (o, c)) (s : State) :
    KeepsFault s (s.withOutput (s.output.zipIdx.map f)) := map_zipIdx_map s.output fun p => hf p.2 p.1

/-! The boundaries and the sample period (R20, R63, R64, R67), and readings (R140). -/

theorem rampUnitBoundary_keepsFault (s : State) : KeepsFault s (rampUnitBoundary s) := by
  have hadvance : KeepsFault s (advanceDivider (clampApplied s)) :=
    .ite (fun _ => mapOut_keepsFault (openFader_leavesFault _) _) fun _ => .of_output rfl
  exact (hadvance.trans (.of_only (checkDrain_only _ _))).trans (.of_only (checkDrain_only _ _))

theorem applyDelays_keepsFault (s : State) : KeepsFault s (applyDelays s) := mapOut_keepsFault delayGone_leavesFault _

theorem outputBoundary_keepsFault (s : State) : KeepsFault s (outputBoundary s) := by
  have hclosed : KeepsFault s (s.mapOut (closeFader (s.tables.global .fastSlew))) :=
    mapOut_keepsFault (closeFader_leavesFault _) s
  have hpolarity : ∀ u, KeepsFault u (takePolarity u) := fun u =>
    zipOut_keepsFault (fun _ _ => by rfl) u
  have hclips : ∀ u, KeepsFault u (countClips u) := fun u =>
    .ite (fun _ => (mapOut_keepsFault countClip_leavesFault u).trans (.of_only (post_only _ _))) fun _ => .refl u
  have hshown : ∀ u : State, KeepsFault u (u.mapOut OutChan.show) := mapOut_keepsFault fun _ => rfl
  exact (((hclosed.trans (hpolarity _)).trans (hclips _)).trans (applyDelays_keepsFault _)).trans (hshown _)

theorem samplePeriod_keepsFault (p : Ports) (s : State) : KeepsFault s (samplePeriod p s) := zipOut_keepsFault (fun _ _ => rfl) s

theorem takeReading_keepsFault (u : Nat) (s : State) : KeepsFault s (takeReading u s) := by
  have hout := takeReading_output u s
  split_ifs at hout
  · exact .of_output hout
  · exact .of_map (removeReason_leavesFault (by decide)).show hout
  · exact .of_map (addReason_leavesFault (by decide)).show hout
  · exact .of_map (addReason_leavesFault (by decide)) hout

/-! Writes of tables, the end of LOADING, the counters, the transmitter (R10, R65, R70, R174). -/

theorem acceptNums_keepsFault (id : TableId) (first k : Nat) (l : List Int) (s : State) :
    KeepsFault s (acceptNums id first k l s) := by
  cases id
  case globals =>
    obtain ⟨honly, -⟩ := acceptNums_globals_acts first k l s
    exact .of_only honly
  case delay =>
    refine zipOut_keepsFault (fun c o => ?_) _
    dsimp only
    split
    · exact writeDelay_leavesFault _ _ o
    · rfl
  all_goals exact .of_output rfl

theorem acceptRoute_keepsFault (l : List Route) (s : State) : KeepsFault s (acceptRoute l s) :=
  zipOut_keepsFault (fun _ o => writeEnabled_leavesFault _ _ o) _

theorem endLoading_keepsFault (s : State) : KeepsFault s (endLoading s) := by
  have hout := endLoading_output s
  split_ifs at hout
  · exact .of_map (removeReason_leavesFault (by decide)) hout
  · exact .of_output hout

theorem clearCounters_keepsFault (s : State) : KeepsFault s (clearCounters s) := mapOut_keepsFault (fun _ => by rfl) _

theorem beginNotice_keepsFault (s : State) : KeepsFault s (beginNotice s) := by
  unfold beginNotice
  split
  · exact .refl s
  · exact .ite (fun _ => mapOut_keepsFault (fun _ => by rfl) _) fun _ => .of_output rfl

theorem beginNext_keepsFault (s : State) : KeepsFault s (beginNext s) :=
  .ite (fun _ => .of_only (beginReply_only s)) fun _ => beginNotice_keepsFault s

theorem pump_keepsFault (s : State) : KeepsFault s (pump s) :=
  .ite (fun _ => .refl s) fun _ => .ite
    (fun _ => .ite (fun _ => beginNotice_keepsFault _) fun _ =>
      .of_only ((withDraws_only s _).comp (beginReply_only _) (n := [.draws, .link])))
    fun _ => beginNext_keepsFault s

end Sys2Proof
end

section
/-! SUPPORT. Every step keeps the restore queue and the read in progress in order, and with them FAULT: what each operation of
the integrity checker and of the restore unit makes of the three. -/

set_option Elab.async false

namespace Sys2Proof

open Sys2Proof.Machine

/-! ## The invariants and what keeps them -/

/-- The restore queue and the read in progress are in order (R152, R154). -/
def RestoreOk (s : State) : Prop := QueueOk s ∧ ReadOk s

/-- An event keeps the queue and the read in order, and beside them FAULT. -/
def KeepsRestore (s t : State) : Prop := RestoreOk s → RestoreOk t ∧ (FaultOk s → FaultOk t)

theorem KeepsRestore.refl (s : State) : KeepsRestore s s := fun h => ⟨h, id⟩

theorem KeepsRestore.trans {s t u : State} (h : KeepsRestore s t) (h' : KeepsRestore t u) : KeepsRestore s u := fun hs => by
  obtain ⟨ht, hfault⟩ := h hs
  obtain ⟨hu, hfault'⟩ := h' ht
  exact ⟨hu, hfault' ∘ hfault⟩

theorem KeepsRestore.ite {s t u : State} {p : Prop} [Decidable p] (h : p → KeepsRestore s t) (h' : ¬p → KeepsRestore s u) :
    KeepsRestore s (if p then t else u) := by
  split
  · exact h ‹_›
  · exact h' ‹_›

/-- With no read in progress there is none to be in order. -/
theorem ReadOk.of_idle {s : State} (hread : s.read = none) (hrun : s.store.running ≠ some .readSet) : ReadOk s :=
  ⟨iff_of_false (not_not_intro hread) hrun, fun r hr => by cases hread.symm.trans hr⟩

/-- A controller that runs no restore read has none in progress. -/
theorem RestoreOk.read_none {s : State} (h : RestoreOk s) (hrun : s.store.running ≠ some .readSet) : s.read = none := by
  by_contra hread
  exact hrun (h.2.1.mp hread)

theorem queueOk_iff (s : State) : QueueOk s ↔ (setStates s).length = 344 ∧ s.integrity.queue.Nodup ∧
    ∀ i, i ∈ s.integrity.queue ↔ i < 344 ∧ (setStates s).getD i .good = .suspect := by
  simp only [QueueOk, setStates_length, setStates_getD]

/-- FAULT as the sets of a channel want it (R153). -/
theorem faultOk_iff (s : State) : FaultOk s ↔ s.output.length = 24 ∧ s.integrity.sets.length = 344 ∧
    ∀ c, c < 24 → ((s.outChan c).fader.reasons.fault = true ↔ FixedBad s c) := by
  simp only [FaultOk, FixedBad, List.mem_range]

/-! Events that leave the sets' states and the queue alone. -/

/-- The sets' states, the queue and FAULT stand as they did. -/
structure ChecksAlike (s t : State) : Prop where
  states : setStates t = setStates s
  queue : t.integrity.queue = s.integrity.queue
  fault : KeepsFault s t

theorem ChecksAlike.of_integrity {s t : State} (h : t.integrity = s.integrity) (hfault : KeepsFault s t) : ChecksAlike s t :=
  ⟨by rw [setStates, h, setStates], by rw [h], hfault⟩

theorem ChecksAlike.queueOk {s t : State} (h : ChecksAlike s t) (hs : QueueOk s) : QueueOk t := by
  rw [queueOk_iff, h.states, h.queue, ← queueOk_iff]
  exact hs

theorem ChecksAlike.faultOk {s t : State} (h : ChecksAlike s t) (hs : FaultOk s) : FaultOk t := by
  rw [faultOk_iff] at hs ⊢
  obtain ⟨hout, hsets, hfault⟩ := hs
  refine ⟨?_, ?_, fun c hc => ?_⟩
  · rw [← faultMarks_length, h.fault, faultMarks_length, hout]
  · rw [← setStates_length, h.states, setStates_length, hsets]
  · rw [outChan_fault_of_same h.fault, hfault c hc]
    simp only [FixedBad, coeffSet_state_of_same h.states]

/-- Where the read in progress stands too, all of it is kept. -/
theorem ChecksAlike.keeps {s t : State} (h : ChecksAlike s t) (hread : t.read = s.read)
    (hrun : t.store.running = some .readSet ↔ s.store.running = some .readSet) : KeepsRestore s t := by
  rintro ⟨hq, hreading, hrestoring⟩
  refine ⟨⟨h.queueOk hq, ?_, fun r hr hd => ?_⟩, h.faultOk⟩
  · rw [hread, hrun]
    exact hreading
  · rw [hread] at hr
    rw [coeffSet_state_of_same h.states]
    exact hrestoring r hr hd

/-- A read that is dropped is in nobody's way. -/
theorem ChecksAlike.keeps_of_idle {s t : State} (h : ChecksAlike s t) (hread : t.read = none)
    (hrun : t.store.running ≠ some .readSet) : KeepsRestore s t := fun hs =>
  ⟨⟨h.queueOk hs.1, .of_idle hread hrun⟩, h.faultOk⟩

/-- What an event does to FAULT decides, if it touches neither the checker nor the restore unit nor the store. -/
theorem KeepsRestore.of_fault {l : List Block} {s t : State} (h : Only l s t) (hf : KeepsFault s t)
    (hl : ∀ b ∈ [Block.integrity, .read, .store], b ∉ l := by decide) : KeepsRestore s t :=
  (ChecksAlike.of_integrity (h.integrity (hl _ (by decide))) hf).keeps (h.read (hl _ (by decide)))
    (by rw [h.store (hl _ (by decide))])

theorem KeepsRestore.of_only {l : List Block} {s t : State} (h : Only l s t)
    (hl : ∀ b ∈ [Block.integrity, .read, .store], b ∉ l := by decide) (ho : Block.output ∉ l := by decide) :
    KeepsRestore s t := .of_fault h (.of_only h ho) hl

/-- A change of the store that neither begins nor ends a restore read. -/
theorem withStore_keepsRestore {s : State} {v : Store}
    (h : v.running = some .readSet ↔ s.store.running = some .readSet) : KeepsRestore s (s.withStore v) :=
  (ChecksAlike.of_integrity (s := s) (t := s.withStore v) rfl (.of_output rfl)).keeps rfl h

theorem mapSets_keepsRestore {f : CoeffSet → CoeffSet} (hf : ∀ e, (f e).state = e.state) (s : State) :
    KeepsRestore s (s.withIntegrity { s.integrity with sets := s.integrity.sets.map f }) := by
  have halike : ChecksAlike s (s.withIntegrity { s.integrity with sets := s.integrity.sets.map f }) := by
    refine ⟨?_, rfl, .of_output rfl⟩
    rw [setStates, State.withIntegrity_integrity, List.map_map]
    exact List.map_congr_left fun e _ => hf e
  exact halike.keeps rfl Iff.rfl

/-- A change of a set's words or check bits. -/
theorem modifySet_keepsRestore {f : CoeffSet → CoeffSet} (hf : ∀ e, (f e).state = e.state) (i : Nat) (s : State) :
    KeepsRestore s (s.modifySet i f) := by
  have halike : ChecksAlike s (s.modifySet i f) := by
    refine ⟨?_, rfl, .of_output rfl⟩
    refine List.ext_getElem (by simp [setStates, State.modifySet]) fun j hj hj' => ?_
    simp only [setStates, State.modifySet, State.withIntegrity_integrity, List.getElem_map, List.getElem_modify]
    split
    · exact hf _
    · rfl
  exact halike.keeps rfl Iff.rfl

/-! ## A set leaves GOOD (R151) -/

/-- The set was GOOD, and so neither in the queue nor being restored; its channel gets FAULT. -/
theorem leaveGood_keepsRestore {s : State} {i : Nat} (h : CheckFails s i) : KeepsRestore s (leaveGood i s) := by
  have hmade := leaveGood_madeSuspect h.lt_length
  have honly := leaveGood_only i s
  have hsets : (leaveGood i s).integrity.sets.length = s.integrity.sets.length := by
    rw [leaveGood_integrity]
    exact List.length_modify _ _ _
  have hstate : ∀ j, ((leaveGood i s).coeffSet j).state = if j = i then .suspect else (s.coeffSet j).state := fun j => by
    rw [hmade.sets, apply_ite CoeffSet.state]
    exact if_congr List.mem_singleton rfl rfl
  rintro ⟨⟨hlen, hnodup, hmem⟩, hreading, hrestoring⟩
  have hi : i < 344 := h.lt_length.trans_eq hlen
  have hout : i ∉ s.integrity.queue := fun hq => by cases h.1.symm.trans ((hmem i).mp hq).2
  refine ⟨⟨⟨hsets.trans hlen, ?_, fun j => ?_⟩, ?_, fun r hr hd => ?_⟩, fun hf => ?_⟩
  · rw [hmade.queue]
    exact hnodup.append (List.nodup_singleton i) (List.disjoint_singleton.mpr hout)
  · rw [hmade.queue, List.mem_append, List.mem_singleton, hmem, hstate]
    by_cases hj : j = i
    · simp [hj, hi]
    · simp [hj]
  · rw [honly.read, honly.store]
    exact hreading
  · rw [honly.read] at hr
    obtain ⟨hlt, hst⟩ := hrestoring r hr hd
    refine ⟨hlt, ?_⟩
    rw [hstate, if_neg fun e => by rw [e, h.1] at hst; cases hst]
    exact hst
  · rw [faultOk_iff] at hf ⊢
    obtain ⟨hout, -, hfault⟩ := hf
    refine ⟨hmade.channels.1.trans hout, hsets.trans hlen, fun c hc => ?_⟩
    rw [leaveGood_outChan i (hc.trans_eq hout.symm)]
    by_cases hic : i < 144 ∧ i / 6 = c
    · rw [if_pos hic]
      refine iff_of_true (addReason_fault .fault _) (fixedBad_of_bad ?_ hic.2)
      rw [hstate, if_pos rfl]
      decide
    · rw [if_neg hic, hfault c hc]
      refine exists_congr fun k => and_congr_right fun hk => ?_
      have := List.mem_range.mp hk
      rw [hstate, if_neg (by omega)]

theorem examine_keepsRestore (i : Nat) (s : State) : KeepsRestore s (examine i s) :=
  .ite (fun h => leaveGood_keepsRestore h) fun _ => .refl s

theorem scan_keepsRestore (s : State) : KeepsRestore s (scan s) := by
  have hmoved : ∀ u : State, ∀ n, KeepsRestore u (u.withIntegrity { u.integrity with scanPos := n }) := fun u n =>
    (ChecksAlike.mk (s := u) (t := u.withIntegrity _) rfl rfl (.of_output rfl)).keeps rfl Iff.rfl
  exact (examine_keepsRestore _ s).trans (hmoved _ _)

theorem eqBoundary_keepsRestore (s : State) : KeepsRestore s (eqBoundary s) := by
  have hchecks : ∀ (l : List Nat) (s : State), KeepsRestore s (l.foldl (fun s i => examine i s) s) := by
    intro l
    induction l with
    | nil => exact .refl
    | cons i l ih => exact fun s => (examine_keepsRestore i s).trans (ih _)
  exact (KeepsRestore.of_only (withEq_only s _)).trans (hchecks _ _)

/-! ## A set returns to GOOD (R153, R155, R158, R173) -/

/-- The set `i` has become GOOD: it has left the queue, a read of it is discarded if it was RESTORING, and FAULT has gone if that
made all six fixed sets of the channel GOOD. -/
structure MadeGood (i : Nat) (s t : State) : Prop where
  sets : t.integrity.sets.length = s.integrity.sets.length
  states (j : Nat) : (t.coeffSet j).state = if j = i then .good else (s.coeffSet j).state
  queue : t.integrity.queue = if (s.coeffSet i).state = .suspect then s.integrity.queue.erase i else s.integrity.queue
  read : t.read = readAfterWrite i s
  store : t.store = s.store
  channels : t.output.length = s.output.length
  fault (c : Nat) : c < s.output.length → (t.outChan c).fader.reasons.fault =
    if ((s.coeffSet i).state ≠ .good ∧ i < 144 ∧ i / 6 = c) ∧ fixedAllGood t c = true then false
    else (s.outChan c).fader.reasons.fault

theorem MadeGood.queueOk {i : Nat} {s t : State} (h : MadeGood i s t) (hs : QueueOk s) : QueueOk t := by
  obtain ⟨hlen, hnodup, hmem⟩ := hs
  have hqueue : t.integrity.queue.Nodup ∧ ∀ j, j ∈ t.integrity.queue ↔ j ≠ i ∧ j ∈ s.integrity.queue := by
    rw [h.queue]
    split
    next => exact ⟨hnodup.erase i, fun j => hnodup.mem_erase_iff⟩
    next hst => exact ⟨hnodup, fun j => ⟨fun hj => ⟨fun e => hst ((hmem i).mp (e ▸ hj)).2, hj⟩, fun hj => hj.2⟩⟩
  refine ⟨h.sets.trans hlen, hqueue.1, fun j => ?_⟩
  rw [hqueue.2, hmem, h.states]
  by_cases hj : j = i <;> simp [hj]

theorem MadeGood.readOk {i : Nat} {s t : State} (h : MadeGood i s t) (hs : ReadOk s) : ReadOk t := by
  obtain ⟨hreading, hrestoring⟩ := hs
  unfold ReadOk
  rw [h.read, h.store, readAfterWrite]
  split
  next hst =>
    refine ⟨by simpa using hreading, fun r hr hd => ?_⟩
    obtain ⟨q, hq, rfl⟩ := Option.map_eq_some_iff.mp hr
    split at hd
    next => cases hd
    next hne =>
      rw [if_neg hne, h.states, if_neg hne]
      exact hrestoring q hq hd
  next hst =>
    refine ⟨hreading, fun r hr hd => ?_⟩
    obtain ⟨hlt, hr'⟩ := hrestoring r hr hd
    refine ⟨hlt, ?_⟩
    rw [h.states, if_neg fun e : r.index = i => hst (e ▸ hr')]
    exact hr'

/-- The channel's fixed sets that were bad beside this one still are. -/
theorem MadeGood.fixedBad_iff {i c : Nat} {s t : State} (h : MadeGood i s t)
    (hkept : ¬(((s.coeffSet i).state ≠ .good ∧ i < 144 ∧ i / 6 = c) ∧ fixedAllGood t c = true)) (hc : c < 24) :
    FixedBad t c ↔ FixedBad s c := by
  constructor
  · rintro ⟨k, hk, hbad⟩
    refine ⟨k, hk, fun hgood => hbad ?_⟩
    rw [h.states, hgood, ite_self]
  · rintro ⟨k, hk, hbad⟩
    by_cases hki : 6 * c + k = i
    · have hk6 := List.mem_range.mp hk
      rw [hki] at hbad
      by_contra hnone
      exact hkept ⟨⟨hbad, by omega, by omega⟩, (fixedAllGood_iff t c).mpr hnone⟩
    · refine ⟨k, hk, ?_⟩
      rw [h.states, if_neg hki]
      exact hbad

theorem MadeGood.keeps {i : Nat} {s t : State} (h : MadeGood i s t) : KeepsRestore s t := by
  rintro ⟨hq, hr⟩
  refine ⟨⟨h.queueOk hq, h.readOk hr⟩, fun hf => ?_⟩
  rw [faultOk_iff] at hf ⊢
  obtain ⟨hout, hsets, hfault⟩ := hf
  refine ⟨h.channels.trans hout, h.sets.trans hsets, fun c hc => ?_⟩
  rw [h.fault c (hc.trans_eq hout.symm)]
  split_ifs with hgone
  · exact iff_of_false nofun ((fixedAllGood_iff t c).mp hgone.2)
  · rw [hfault c hc, h.fixedBad_iff hgone hc]

/-- What a return to GOOD does once the set, the queue and the read are changed: FAULT is looked at, the transition recorded. -/
theorem madeGood_of_returned {i : Nat} {b : Bool} {s u : State} (hbad : (s.coeffSet i).state ≠ .good)
    (hsets : u.integrity.sets.length = s.integrity.sets.length)
    (hstates : ∀ j, (u.coeffSet j).state = if j = i then .good else (s.coeffSet j).state)
    (hqueue : u.integrity.queue = if (s.coeffSet i).state = .suspect then s.integrity.queue.erase i else s.integrity.queue)
    (hread : u.read = readAfterWrite i s) (hstore : u.store = s.store) (hout : u.output = s.output) :
    MadeGood i s (recordTransition i .good b (clearFault i u)) := by
  have hclear := clearFault_only i u
  have hrecord := recordTransition_only i .good b (clearFault i u)
  have hint : (recordTransition i .good b (clearFault i u)).integrity = { u.integrity with last := some ⟨i, .good, b⟩ } := by
    rw [recordTransition_integrity, hclear.integrity]
  have hsame : ∀ j, (recordTransition i .good b (clearFault i u)).coeffSet j = u.coeffSet j := fun j => by
    rw [State.coeffSet, hint, State.coeffSet]
  refine ⟨by rw [hint]; exact hsets, fun j => by rw [hsame, hstates], by rw [hint]; exact hqueue,
    (hrecord.read.trans hclear.read).trans hread, (hrecord.store.trans hclear.store).trans hstore, ?_, fun c hc => ?_⟩
  · rw [hrecord.output, clearFault_output_length, hout]
  · have hchan : u.outChan c = s.outChan c := by rw [State.outChan, hout, State.outChan]
    rw [hrecord.outChan, clearFault_outChan i (hc.trans_eq (congrArg List.length hout).symm), hchan,
      fixedAllGood_congr (s := recordTransition i .good b (clearFault i u)) (t := u) (by rw [hint]),
      apply_ite fun o : OutChan => o.fader.reasons.fault]
    refine if_congr (and_congr_left' (and_iff_right hbad).symm) (removeReason_fault .fault _) rfl

/-- A change that makes its set GOOD; beyond the last set there is nothing to change. -/
theorem modifySet_good_state {f : CoeffSet → CoeffSet} (hf : ∀ e, (f e).state = .good) (i : Nat) (s : State) (j : Nat) :
    ((s.modifySet i f).coeffSet j).state = if j = i then .good else (s.coeffSet j).state := by
  by_cases hi : i < s.integrity.sets.length
  · rw [modifySet_coeffSet hi]
    split
    · exact hf _
    · rfl
  · have hreset : s.coeffSet i = CoeffSet.reset := List.getD_eq_default _ _ (not_lt.mp hi)
    have hsame : (s.modifySet i f).coeffSet j = s.coeffSet j := by
      rw [State.coeffSet, State.modifySet, State.withIntegrity_integrity]
      rw [List.modify_eq_self (not_lt.mp hi), State.coeffSet]
    rw [hsame]
    split
    next hj => rw [hj, hreset]; rfl
    next => rfl

/-- A set written by the host or placed by LOAD (R157, R158, R173). -/
theorem writeSet_madeGood (byHost : Bool) (i : Nat) (w : Words) (s : State) : MadeGood i s (writeSet byHost i w s) := by
  have hstates := modifySet_good_state
    (f := fun e => { e.place w with state := .good, unsaved := byHost, writtenSince := byHost }) (fun _ => rfl) i s
  have hsets : (s.modifySet i fun e =>
      { e.place w with state := .good, unsaved := byHost, writtenSince := byHost }).integrity.sets.length =
        s.integrity.sets.length := List.length_modify _ _ _
  have hread : (s.coeffSet i).state ≠ .restoring → s.read = readAfterWrite i s := fun h =>
    (readAfterWrite_of_not_restoring h).symm
  unfold writeSet
  cases hst : (s.coeffSet i).state with
  | good =>
    refine ⟨hsets, hstates, by simp [hst]; rfl, (hread (by simp [hst])), rfl, rfl, fun c _ => ?_⟩
    rw [if_neg fun h => h.1.1 hst]
    rfl
  | suspect =>
    exact madeGood_of_returned (by simp [hst]) hsets hstates (by simp [hst]; rfl)
      (hread (by simp [hst])) rfl rfl
  | restoring =>
    rw [leaveForGood, discardRead_eq hst (by rfl)]
    exact madeGood_of_returned (by simp [hst]) hsets hstates (by simp [hst]; rfl) rfl rfl rfl
  | failed =>
    exact madeGood_of_returned (by simp [hst]) hsets hstates (by simp [hst]; rfl)
      (hread (by simp [hst])) rfl rfl

theorem writeSets_keepsRestore (byHost : Bool) : ∀ (i : Nat) (l : List Words) (s : State),
    KeepsRestore s (writeSets byHost i l s)
  | _, [], s => .refl s
  | i, w :: rest, s => (writeSet_madeGood byHost i w s).keeps.trans (writeSets_keepsRestore byHost (i + 1) rest _)

/-! ## The outcome of a read (R155, R156, R159) -/

theorem restoreSucceeds_madeGood {i : Nat} {s : State} (hst : (s.coeffSet i).state = .restoring) (hread : s.read = none)
    (w : Words) : MadeGood i s (restoreSucceeds i w s) := by
  refine madeGood_of_returned (by simp [hst]) (List.length_modify _ _ _)
    (modifySet_good_state (f := fun e => { e.place w with state := .good, unsaved := false }) (fun _ => rfl) i s)
    (by simp [hst]; rfl) ?_ rfl rfl
  rw [readAfterWrite, if_pos hst, hread]
  exact hread

/-- A set that was RESTORING and has failed is in the queue as little as before, and its channel as bad. -/
theorem restoreFails_keepsRestore {i : Nat} {s : State} (hi : i < s.integrity.sets.length)
    (hst : (s.coeffSet i).state = .restoring) (hread : s.read = none) : KeepsRestore s (restoreFails i s) := by
  have honly := restoreFails_only i s
  have hint : (restoreFails i s).integrity = { s.integrity with
      sets := s.integrity.sets.modify i fun e => { e with state := .failed }
      secondFailures := bump s.integrity.secondFailures, last := some ⟨i, .failed, false⟩ } := by
    rw [restoreFails, recordTransition_integrity]
    rfl
  have hsets : (restoreFails i s).integrity.sets.length = s.integrity.sets.length := by
    rw [hint]
    exact List.length_modify _ _ _
  have hstate : ∀ j, ((restoreFails i s).coeffSet j).state = if j = i then .failed else (s.coeffSet j).state := fun j => by
    have hset : (restoreFails i s).coeffSet j = (s.modifySet i fun e => { e with state := .failed }).coeffSet j := by
      rw [State.coeffSet, hint]
      rfl
    rw [hset, modifySet_coeffSet hi]
    split <;> rfl
  rintro ⟨⟨hlen, hnodup, hmem⟩, hreading, -⟩
  refine ⟨⟨⟨hsets.trans hlen, by rw [hint]; exact hnodup, fun j => ?_⟩, .of_idle (honly.read.trans hread) ?_⟩, fun hf => ?_⟩
  · rw [hint, hstate]
    dsimp only
    rw [hmem]
    by_cases hj : j = i
    · simp [hj, hst]
    · simp [hj]
  · rw [honly.store]
    exact fun hrun => hreading.mpr hrun hread
  · rw [faultOk_iff] at hf ⊢
    obtain ⟨hout, -, hfault⟩ := hf
    refine ⟨(congrArg List.length honly.output).trans hout, hsets.trans hlen, fun c hc => ?_⟩
    rw [honly.outChan, hfault c hc]
    refine exists_congr fun k => and_congr_right fun _ => ?_
    rw [hstate]
    split
    next hk => simp [hk, hst]
    next => rfl

section
variable {r : ReadRec} {s : State} {w : Words}

theorem readOutcome_discarded (h : r.discard = true) (ok : Bool) : readOutcome r ok s = s := if_pos h

theorem readOutcome_damaged (h : r.discard = false) (hcopy : r.copy = none) (ok : Bool) :
    readOutcome r ok s = restoreFails r.index s := by
  simp only [readOutcome, h, hcopy]
  rfl

theorem readOutcome_restored (h : r.discard = false) (hcopy : r.copy = some w) :
    readOutcome r true s = restoreSucceeds r.index w s := by
  simp only [readOutcome, h, hcopy]
  rfl

theorem readOutcome_failed (h : r.discard = false) (hcopy : r.copy = some w) :
    readOutcome r false s = restoreFails r.index (s.modifySet r.index (CoeffSet.place w)) := by
  simp only [readOutcome, h, hcopy]
  rfl

end

theorem readOutcome_keepsRestore {r : ReadRec} {s : State}
    (hr : r.discard = false → r.index < 344 ∧ (s.coeffSet r.index).state = .restoring) (hread : s.read = none) (ok : Bool) :
    KeepsRestore s (readOutcome r ok s) := by
  intro hs
  cases hd : r.discard with
  | true =>
    rw [readOutcome_discarded hd]
    exact ⟨hs, id⟩
  | false =>
    obtain ⟨hlt, hst⟩ := hr hd
    have hi : r.index < s.integrity.sets.length := hlt.trans_eq hs.1.1.symm
    cases hcopy : r.copy with
    | none =>
      rw [readOutcome_damaged hd hcopy]
      exact restoreFails_keepsRestore hi hst hread hs
    | some w =>
      cases ok with
      | true =>
        rw [readOutcome_restored hd hcopy]
        exact (restoreSucceeds_madeGood hst hread w).keeps hs
      | false =>
        have hplaced : ((s.modifySet r.index (CoeffSet.place w)).coeffSet r.index).state = .restoring := by
          rw [modifySet_coeffSet hi, if_pos rfl]
          exact hst
        rw [readOutcome_failed hd hcopy]
        exact ((modifySet_keepsRestore (f := CoeffSet.place w) (fun _ => rfl) _ s).trans
          (restoreFails_keepsRestore (hi.trans_eq (List.length_modify _ _ _).symm) hplaced hread)) hs

/-! ## A freed controller begins what waits (R154, R165) -/

/-- A read takes its SUSPECT set from the head of the queue; the set is then RESTORING, and its channel as bad as before. -/
theorem Begins.keepsRestore {s t : State} {st : Store} (h : Begins s.integrity st t) (hq : QueueOk s)
    (hout : t.output = s.output) : RestoreOk t ∧ (FaultOk s → FaultOk t) := by
  unfold Begins at h
  cases hqueue : s.integrity.queue with
  | nil =>
    rw [hqueue] at h
    obtain ⟨hint, hread, hstore⟩ := h
    have halike : ChecksAlike s t := .of_integrity hint (.of_output hout)
    refine ⟨⟨halike.queueOk hq, .of_idle hread ?_⟩, halike.faultOk⟩
    rw [hstore]
    cases st.waiting <;> simp
  | cons i rest =>
    rw [hqueue] at h
    obtain ⟨hint, hread, hstore⟩ := h
    obtain ⟨hlen, hnodup, hmem⟩ := hq
    rw [hqueue] at hnodup hmem
    obtain ⟨hi, hsuspect⟩ := (hmem i).mp List.mem_cons_self
    have hsets : t.integrity.sets.length = 344 := by
      rw [hint]
      exact (List.length_modify _ _ _).trans hlen
    have hstate : ∀ j, (t.coeffSet j).state = if j = i then .restoring else (s.coeffSet j).state := fun j => by
      have hset : t.coeffSet j = (s.modifySet i fun e => { e with state := .restoring }).coeffSet j := by
        rw [State.coeffSet, hint]
        rfl
      rw [hset, modifySet_coeffSet (hi.trans_eq hlen.symm)]
      split <;> rfl
    obtain ⟨hnot, hrest⟩ := List.nodup_cons.mp hnodup
    refine ⟨⟨⟨hsets, by rw [hint]; exact hrest, fun j => ?_⟩, ?_, fun r hr _ => ?_⟩, fun hf => ?_⟩
    · rw [hint, hstate]
      dsimp only
      by_cases hj : j = i
      · simp [hj, hnot]
      · rw [if_neg hj, ← hmem, List.mem_cons, or_iff_right hj]
    · rw [hread, hstore]
      simp
    · obtain rfl := Option.some.inj (hread.symm.trans hr)
      refine ⟨hi, ?_⟩
      rw [hstate, if_pos rfl]
    · rw [faultOk_iff] at hf ⊢
      obtain ⟨hlen24, -, hfault⟩ := hf
      refine ⟨(congrArg List.length hout).trans hlen24, hsets, fun c hc => ?_⟩
      rw [outChan_fault_of_same (KeepsFault.of_output hout), hfault c hc]
      refine exists_congr fun k => and_congr_right fun _ => ?_
      rw [hstate]
      split
      next hk => simp [hk, hsuspect]
      next => rfl

theorem grantNext_keepsRestore {s : State} (hidle : s.store.running = none) : KeepsRestore s (grantNext s) := fun hs =>
  (grantNext_begins (hs.read_none (by simp [hidle])) hidle).1.keepsRestore hs.1 (grantNext_only s).output

/-- The state with the read done and the controller free. -/
def readFreed (s : State) : State := (s.withRead none).withStore { s.store with running := none }

theorem completeRead_keepsRestore (ok : Bool) (s : State) : KeepsRestore s (completeRead ok s) := by
  intro hs
  unfold completeRead
  cases hread : s.read with
  | none => exact ⟨hs, id⟩
  | some r =>
    have hfreed : KeepsRestore s (readFreed s) :=
      (ChecksAlike.of_integrity (by rfl) (.of_output (by rfl))).keeps_of_idle rfl nofun
    refine ((hfreed.trans (readOutcome_keepsRestore (s := readFreed s) (hs.2.2 r hread) rfl ok)).trans
      (grantNext_keepsRestore ?_)) hs
    rw [(readOutcome_only _ _ _).store]
    rfl

/-! ## Host operations (R157, R164, R166, R167) -/

theorem acceptHost_keepsRestore (op : HostOp) (s : State) : KeepsRestore s (acceptHost op s) :=
  .ite (fun h => withStore_keepsRestore (by simp [h.1])) fun _ => withStore_keepsRestore Iff.rfl

theorem handleSave_keepsRestore (p : List Byte) (s : State) : KeepsRestore s (handleSave p s).state := by
  have hmarked : KeepsRestore s (markAccepted s) := mapSets_keepsRestore (fun _ => by rfl) s
  unfold handleSave
  split
  · split
    · exact .refl s
    · split
      · exact .refl s
      · split
        · split
          · exact .refl s
          · exact hmarked.trans (acceptHost_keepsRestore _ _)
        · split <;> exact acceptHost_keepsRestore _ s
  · exact .refl s

theorem handleClose_keepsRestore (s : State) : KeepsRestore s (handleClose s).state := by
  unfold handleClose
  split_ifs
  · exact .refl s
  · exact .refl s
  · exact .refl s
  · exact acceptHost_keepsRestore _ s

theorem hostDone_keepsRestore {s : State} (op : HostOp) (ok : Bool) (h : s.store.running ≠ some .readSet) :
    KeepsRestore s (hostDone op ok s) := by
  refine KeepsRestore.trans ?_ (.of_only (post_only _ _))
  exact withStore_keepsRestore (iff_of_false nofun h)

theorem completeSave_keepsRestore (ok : Bool) (s : State) : KeepsRestore s (completeSave ok s) := by
  unfold completeSave
  split
  next image hrun =>
    have hdone := hostDone_keepsRestore (.saveFactory image) ok (s := s) (by simp [hrun])
    have hidle := hostDone_running (.saveFactory image) ok s
    dsimp only
    split
    · refine (hdone.trans ?_).trans (grantNext_keepsRestore (s := clearUnsaved _) hidle)
      exact mapSets_keepsRestore (fun _ => by rfl) _
    · exact hdone.trans (grantNext_keepsRestore hidle)
  next l hrun =>
    exact (hostDone_keepsRestore _ ok (by simp [hrun])).trans (grantNext_keepsRestore (hostDone_running _ ok s))
  next sc hrun =>
    exact (hostDone_keepsRestore _ ok (by simp [hrun])).trans (grantNext_keepsRestore (hostDone_running _ ok s))
  next => exact .refl s

theorem completeClose_keepsRestore (ok : Bool) (s : State) : KeepsRestore s (completeClose ok s) := by
  unfold completeClose
  split
  next hrun =>
    exact (hostDone_keepsRestore _ ok (by simp [hrun])).trans (grantNext_keepsRestore (hostDone_running _ ok s))
  next => exact .refl s

/-! ## The counters, writes of tables, and LOAD (R173, R184) -/

theorem handleCounters_keepsRestore (p : List Byte) (s : State) : KeepsRestore s (handleCounters p s).state := by
  have hcleared : ChecksAlike s (clearCounters s) := ⟨by rfl, by rfl, clearCounters_keepsFault s⟩
  unfold handleCounters
  split
  · exact .ite (fun _ => hcleared.keeps rfl Iff.rfl) fun _ => .refl s
  · exact .refl s

theorem acceptNums_keepsRestore (id : TableId) (first k : Nat) (l : List Int) (s : State) :
    KeepsRestore s (acceptNums id first k l s) := .of_fault (acceptNums_only id first k l s) (acceptNums_keepsFault id first k l s)

theorem acceptRoute_keepsRestore (l : List Route) (s : State) : KeepsRestore s (acceptRoute l s) :=
  .of_fault (acceptRoute_only l s) (acceptRoute_keepsFault l s)

theorem TableAct.keepsRestore {s t : State} (h : TableAct s t) : KeepsRestore s t := by
  cases h with
  | refused => exact .refl s
  | curve l => exact .of_only (acceptCurve_only l s)
  | classes l => exact .of_only (acceptClasses_only l s)
  | route l => exact acceptRoute_keepsRestore l s
  | sets i ws => exact writeSets_keepsRestore true i ws s
  | numbers id first k l _ => exact acceptNums_keepsRestore id first k l s

theorem handlePatchPut_keepsRestore (p : List Byte) (s : State) : KeepsRestore s (handlePatchPut p s).state := by
  obtain ⟨u, hact, honly⟩ := handlePatchPut_acts p s
  exact hact.keepsRestore.trans (.of_only honly)

theorem placeAllNums_keepsRestore (f : FactoryImage) : ∀ (l : List TableId) (s : State),
    KeepsRestore s (l.foldl (placeNums f) s)
  | [], s => .refl s
  | _ :: l, s => (acceptNums_keepsRestore _ _ _ _ s).trans (placeAllNums_keepsRestore f l _)

theorem placeFactory_keepsRestore (f : FactoryImage) (s : State) : KeepsRestore s (placeFactory f s) := by
  refine KeepsRestore.trans ?_ (writeSets_keepsRestore _ _ _ _)
  refine KeepsRestore.trans ?_ (placeAllNums_keepsRestore f _ _)
  refine KeepsRestore.trans ?_ (acceptRoute_keepsRestore _ _)
  refine KeepsRestore.trans ?_ (.of_only (acceptClasses_only _ _))
  exact (placeAllNums_keepsRestore f _ s).trans (.of_only (acceptCurve_only _ _))

theorem finishLoad_keepsRestore {s : State} (hidle : s.store.running = none) : KeepsRestore s (finishLoad s) := by
  have hscene := placeScene_only s
  have hend := endLoading_only (placeScene s)
  refine ((KeepsRestore.of_only hscene).trans (.of_fault hend (endLoading_keepsFault _))).trans (grantNext_keepsRestore ?_)
  rw [hend.store, hscene.store, hidle]

theorem completeLoad_keepsRestore (s : State) : KeepsRestore s (completeLoad s) := by
  by_cases hload : s.store.running = some .load
  · have hfreed : ∀ v : Store, v.running = none → KeepsRestore s (s.withStore v) := fun v hv =>
      withStore_keepsRestore (by simp [hv, hload])
    by_cases hv : s.store.factoryState = .valid
    · have hplaced : KeepsRestore s (loadPlaced s) :=
        (hfreed _ rfl).trans (placeFactory_keepsRestore s.store.factory (loadFreed s))
      rw [completeLoad_valid hload hv]
      refine (hplaced.trans (.of_only (loadPatched_only s))).trans (finishLoad_keepsRestore ?_)
      rw [(loadPatched_only s).store, loadPlaced_store]
    · have hunplaced : Only [.patches, .startup] (loadFreed s) (loadUnplaced s) :=
        (withPatches_only _ _).comp (withStartup_only _ _)
      rw [completeLoad_invalid hload hv]
      exact ((hfreed _ rfl).trans (.of_only hunplaced)).trans (finishLoad_keepsRestore rfl)
  · rw [completeLoad, if_neg hload]
    exact .refl s

/-! ## Every event -/

theorem effect_keepsRestore (c : Instr) (s : State) : KeepsRestore s (effect c s) := by
  have request : ∀ {kind tag lengthOk ready} {handle : State → Handled},
      (∀ u, KeepsRestore u (handle u).state) → KeepsRestore s (taken kind tag lengthOk ready handle s) := fun hh =>
    taken_keeps (P := KeepsRestore s) (fun u _ h => h.trans (.of_only (withLink_only u _))) (fun u h => h.trans (hh u))
      (.refl s) _ _ _ _
  have hreading : ∀ u, KeepsRestore s (takeReading u s) := fun u =>
    .of_fault (takeReading_only u s) (takeReading_keepsFault u s)
  have hramp : KeepsRestore s (rampUnitBoundary s) := .of_fault (rampUnitBoundary_only s) (rampUnitBoundary_keepsFault s)
  have hf := effect_only c s
  cases c
  all_goals dsimp only [touches] at hf
  case tableWrite p => exact request fun u => (handleTableWrite_acts p u).keepsRestore
  case patchPut p => exact request (handlePatchPut_keepsRestore p)
  case save p => exact request (handleSave_keepsRestore p)
  case closeFactory => exact request handleClose_keepsRestore
  case counters p => exact request (handleCounters_keepsRestore p)
  case rampBoundary => exact hramp
  case rampStep => exact .ite (fun _ => hramp) fun _ => .refl s
  case outputStageStep => exact .of_fault hf (outputBoundary_keepsFault s)
  case applyDelay => exact .of_fault hf (applyDelays_keepsFault s)
  case eqBoundary => exact eqBoundary_keepsRestore s
  case scannerCheck => exact scan_keepsRestore s
  case upset => exact modifySet_keepsRestore (fun _ => by rfl) _ s
  case readSetBegin =>
    refine .ite (fun h => ?_) fun _ => .refl s
    have hgrant : grantNext s = beginRead s := if_pos h.2
    exact hgrant ▸ grantNext_keepsRestore h.1
  case readSetComplete ok => exact completeRead_keepsRestore ok s
  case supplyReading => exact hreading _
  case runComplete => exact .ite (fun _ => hreading _) fun _ => .refl s
  case settleComplete => exact .ite (fun _ => hreading _) fun _ => .refl s
  case loadComplete => exact completeLoad_keepsRestore s
  case hostOperationBegin =>
    refine .ite (fun h => ?_) fun _ => .refl s
    have hgrant : grantNext s = beginHost s := if_neg (by simp [h.2])
    exact hgrant ▸ grantNext_keepsRestore h.1
  case saveComplete ok => exact completeSave_keepsRestore ok s
  case closeComplete ok => exact completeClose_keepsRestore ok s
  case samplePeriod p => exact .of_fault hf (samplePeriod_keepsFault p s)
  all_goals exact .of_only hf

/-! ## Reset (R168, R172) -/

theorem enterReset_keepsRestore (e : Hold) (s : State) : KeepsRestore s (enterReset e s) := by
  have honly := enterReset_only e s
  refine (ChecksAlike.of_integrity honly.integrity (.of_only honly)).keeps_of_idle rfl ?_
  have hidle : (enterReset e s).store.running = none := interrupted_running s.store
  rw [hidle]
  nofun

theorem frameSent_keepsRestore (s : State) : KeepsRestore s (frameSent s) := by
  unfold frameSent
  split
  · exact .refl s
  · refine .ite (fun _ => enterReset_keepsRestore _ s) fun _ => ?_
    exact (KeepsRestore.of_only (withLink_only s _)).trans (.of_fault (beginNext_only _) (beginNext_keepsFault _))

/-- Every set is GOOD, no read runs but LOAD, and no channel has FAULT. -/
theorem release_keepsRestore (e : Hold) (s : State) : KeepsRestore s (release e s) := fun _ =>
  ⟨⟨reset_queueOk, .of_idle rfl nofun⟩, fun _ => reset_faultOk⟩

theorem damageStored_keepsRestore (i : Nat) (f : Words) (s : State) : KeepsRestore s (damageStored i f s) :=
  withStore_keepsRestore Iff.rfl

theorem step_keepsRestore {s t : State} (h : step s = .next t) : KeepsRestore s t := by
  refine step_keeps (P := KeepsRestore s) (fun u _ h => h.trans (.of_only (withPending_only u _))) (fun u _ h => h)
    (fun u _ h => h.trans (.of_only (withLink_only u _))) (fun c u v hu h => ?_) (.refl s) h
  exact exec_keeps (P := KeepsRestore s)
    (fun c u _ hu => (hu.trans (effect_keepsRestore c u)).trans (.of_fault (pump_only _) (pump_keepsFault _)))
    (fun u hu => hu.trans (frameSent_keepsRestore u)) (fun e u hu => hu.trans (enterReset_keepsRestore e u))
    (fun u hu => (hu.trans (enterReset_keepsRestore .supplyCut u)).trans (.of_only (withHold_only _ _)))
    (fun e u hu => hu.trans (.of_only (withHold_only u _))) (fun e u hu => hu.trans (release_keepsRestore e u))
    (fun i f u hu => hu.trans (damageStored_keepsRestore i f u)) hu h

/-- Settles O10: sets enter and leave the queue with the state SUSPECT, and a read of a set that the host writes is discarded. -/
theorem restoreQueueHoldsSuspects : Obligations.RestoreQueueHoldsSuspects := fun _ _ hq hr h =>
  (step_keepsRestore h ⟨hq, hr⟩).1

/-- Settles O11: a set that leaves GOOD adds FAULT, and the last one that returns removes it; between them the set stays bad. -/
theorem faultFollowsFixedSets : Obligations.FaultFollowsFixedSets := fun _ _ hq hr hf h =>
  (step_keepsRestore h ⟨hq, hr⟩).2 hf

end Sys2Proof
end

section
/-! SUPPORT. Upsets, the scanner, and what a free controller begins. -/

set_option Elab.async false

namespace Sys2Proof

open Sys2Proof.Machine

/-! ## One set changed -/

/-- A set is changed by writing it anew; beyond the last set neither does anything. -/
theorem sets_modify_eq_set (s : State) (i : Nat) (f : CoeffSet → CoeffSet) :
    s.integrity.sets.modify i f = s.integrity.sets.set i (f (s.coeffSet i)) := by
  by_cases hi : i < s.integrity.sets.length
  · refine List.ext_getElem (by simp) fun j hj hj' => ?_
    rw [List.getElem_modify, List.getElem_set]
    split
    next h => subst h; rw [State.coeffSet, List.getD_eq_getElem _ _ hi]
    next => rfl
  · rw [List.modify_eq_self (not_lt.mp hi), List.set_eq_of_length_le (not_lt.mp hi)]

/-! ## Upsets (R147) -/

theorem exec_upset {s : State} (ha : Awake s) (i : Fin 344) (flips : Words) (checkFlips : Nat) :
    exec (.upset i flips checkFlips) s = .next (upsetSet i flips checkFlips s) :=
  exec_quiet ha rfl (by simp [touches])

theorem damageStored_sets (i : Nat) (flips : Words) (s : State) (j : Nat) :
    (damageStored i flips s).store.factory.sets[j]? = if j = i then
        (s.store.factory.sets[j]?).map fun e => ⟨flipWords e.words flips, false⟩
      else s.store.factory.sets[j]? := by
  rw [damageStored, State.withStore_store, List.getElem?_modify]
  by_cases hj : j = i
  · simp [hj]
  · simp [hj, Ne.symm hj]

/-- Settles O37: UPSET writes one set anew, STORED_COPY_DAMAGED one stored copy. -/
theorem upsetsTouchOneSet : Obligations.UpsetsTouchOneSet := by
  refine ⟨fun i flips checkFlips s ha _ => ?_, fun i flips s hshape => ?_⟩
  · rw [exec_upset ha, upsetSet, State.modifySet, sets_modify_eq_set]
    rfl
  · refine ⟨_, exec_storedCopyDamaged i flips s, ?_, ?_⟩
    · exact Only.ite (fun _ => .refl _ s) fun _ => withStore_only s _
    · split
      next => rfl
      next =>
        have hlen : s.store.factory.sets.length = 344 := hshape.2.2.2.2.1.2
        refine ⟨rfl, (List.length_modify _ _ _).trans hlen, fun j _ => ?_⟩
        simpa only [Fin.getElem?_fin, Fin.ext_iff] using damageStored_sets i flips s j

/-! ## The scanner (R150, R151) -/

theorem leaveGood_output (i : Nat) (s : State) : (leaveGood i s).output =
    if i < 144 then s.output.modify (i / 6) fun o => (o.addReason .fault).show else s.output := by
  unfold leaveGood
  rw [(recordTransition_only _ _ _ _).output]
  split <;> rfl

/-- The position after the last set is the first one again. -/
theorem scanPos_next (i : Nat) : (if 343 ≤ i then 0 else i + 1) = if i < 343 then i + 1 else 0 := by
  by_cases h : i < 343
  · rw [if_pos h, if_neg (not_le.mpr h)]
  · rw [if_neg h, if_pos (not_lt.mp h)]

theorem scan_of_fails {s : State} (h : CheckFails s s.integrity.scanPos) :
    scan s = (leaveGood s.integrity.scanPos s).withIntegrity { (leaveGood s.integrity.scanPos s).integrity with
      scanPos := if s.integrity.scanPos < 343 then s.integrity.scanPos + 1 else 0 } := by
  rw [scan, examine_of_fails h, scanPos_next]

theorem scan_of_not_fails {s : State} (h : ¬CheckFails s s.integrity.scanPos) :
    scan s = s.withIntegrity { s.integrity with
      scanPos := if s.integrity.scanPos < 343 then s.integrity.scanPos + 1 else 0 } := by
  rw [scan, examine_of_not_fails h, scanPos_next]

theorem exec_scannerCheck (s : State) : exec .scannerCheck s = event scan s := rfl

/-- What the scanner does at its position (R150, R151). -/
theorem scannerCheck_checks {s : State} (ha : Awake s) :
    ∃ t, exec .scannerCheck s = .next t ∧ Only [.integrity, .output, .link] s t ∧
      if (s.coeffSet s.integrity.scanPos).state = .good ∧ checkPasses (s.coeffSet s.integrity.scanPos) = false then
        t.integrity = { s.integrity with
            sets := s.integrity.sets.set s.integrity.scanPos { s.coeffSet s.integrity.scanPos with state := .suspect }
            queue := s.integrity.queue ++ [s.integrity.scanPos]
            scanPos := if s.integrity.scanPos < 343 then s.integrity.scanPos + 1 else 0
            last := some ⟨s.integrity.scanPos, .suspect, false⟩ } ∧
          t.output = (if s.integrity.scanPos < 144 then
            s.output.modify (s.integrity.scanPos / 6) fun o => (o.addReason .fault).show else s.output) ∧
          Sends s.link t [] [.coeffState]
      else t = s.withIntegrity { s.integrity with
        scanPos := if s.integrity.scanPos < 343 then s.integrity.scanPos + 1 else 0 } := by
  rw [exec_scannerCheck]
  by_cases h : CheckFails s s.integrity.scanPos
  · have hscan := scan_of_fails h
    have hposts : PostsJust [.coeffState] s (scan s) := hscan ▸ (leaveGood_postsJust _ s).then rfl
    obtain ⟨t, hx, honly, hsends⟩ := event_sends ha hposts (by decide)
    refine ⟨t, hx, (scan_only s).comp honly, (if_pos h).mpr ⟨?_, ?_, hsends⟩⟩
    · rw [honly.integrity, hscan, State.withIntegrity_integrity, leaveGood_integrity, sets_modify_eq_set]
    · rw [honly.output, hscan]
      exact leaveGood_output _ s
  · have hscan := scan_of_not_fails h
    exact ⟨_, event_quiet ha (f := scan) (by rw [hscan]; rfl), scan_only s, (if_neg h).mpr hscan⟩

/-- Flipped bits count as the distance between the words before and after. -/
theorem wordsDistance_flipWords (w f : Words) : wordsDistance (flipWords w f) w = wordsDistance f ⟨0, 0, 0, 0, 0⟩ := by
  have hflip : ∀ {n : Nat} (a b : BitVec n), a ^^^ b ^^^ a = b ^^^ 0 := fun a b => by
    rw [BitVec.xor_comm a b, BitVec.xor_assoc, BitVec.xor_self]
    rfl
  simp only [wordsDistance, flipWords, hflip]

/-- An upset of one or two bits in a set with agreeing check bits fails the check. -/
theorem checkPasses_of_upset {e : CoeffSet} (hwords : e.words = e.placed) (hcheck : e.checkFlips = 0) {flips : Words}
    {checkFlips : Nat} (hlow : 1 ≤ wordsDistance flips ⟨0, 0, 0, 0, 0⟩ + popcount checkFlips)
    (hhigh : wordsDistance flips ⟨0, 0, 0, 0, 0⟩ + popcount checkFlips ≤ 2) :
    checkPasses { e with words := flipWords e.words flips, checkFlips := e.checkFlips ^^^ checkFlips } = false := by
  have hdist : wordsDistance (flipWords e.words flips) e.placed + popcount (e.checkFlips ^^^ checkFlips) =
      wordsDistance flips ⟨0, 0, 0, 0, 0⟩ + popcount checkFlips := by
    rw [hcheck, Nat.zero_xor, ← hwords, wordsDistance_flipWords]
  rw [checkPasses]
  dsimp only
  rw [hdist, if_neg (by omega), if_pos hhigh]

/-- Settles O38: the check of the set at the scanner's position, and an upset there that it finds. -/
theorem scannerFindsUpsets : Obligations.ScannerFindsUpsets := by
  refine ⟨fun s ha _ => scannerCheck_checks ha, fun i flips checkFlips s ha hshape hpos hgood hwords hcheck hlow hhigh => ?_⟩
  have hi : (i : Nat) < s.integrity.sets.length := i.isLt.trans_eq hshape.2.2.2.1.symm
  have honly : Only [.integrity] s (upsetSet i flips checkFlips s) := modifySet_only _ _ s
  have hset : (upsetSet i flips checkFlips s).coeffSet i = { s.coeffSet i with
      words := flipWords (s.coeffSet i).words flips, checkFlips := (s.coeffSet i).checkFlips ^^^ checkFlips } := by
    rw [upsetSet, modifySet_coeffSet hi, if_pos rfl]
  have hgood' : ((upsetSet i flips checkFlips s).coeffSet i).state = .good := by
    rw [hset]
    exact hgood
  have hfails : checkPasses ((upsetSet i flips checkFlips s).coeffSet i) = false := by
    rw [hset]
    exact checkPasses_of_upset hwords hcheck hlow hhigh
  have ha' : Awake (upsetSet i flips checkFlips s) := ⟨ha.1, ha.2⟩
  have hpos' : (upsetSet i flips checkFlips s).integrity.scanPos = i := hpos
  obtain ⟨t, hx, -, ht⟩ := scannerCheck_checks ha'
  rw [hpos', if_pos ⟨hgood', hfails⟩] at ht
  obtain ⟨hint, -, -⟩ := ht
  refine ⟨_, t, exec_upset ha i flips checkFlips, hgood', hx, ?_⟩
  have hlen : (i : Nat) < (upsetSet i flips checkFlips s).integrity.sets.length := hi.trans_eq (List.length_modify _ _ _).symm
  rw [State.coeffSet, hint, List.getD_eq_getElem?_getD, List.getElem?_set_self hlen]
  rfl

/-! ## A free controller takes what waits (R154, R165) -/

theorem readWaits_iff (s : State) : readWaits s = true ↔ s.integrity.queue ≠ [] ∧ s.read = none := by
  rw [readWaits, Bool.and_eq_true, decide_eq_true_iff, Option.isNone_iff_eq_none]

theorem readWaits_eq_false_iff (s : State) : readWaits s = false ↔ s.integrity.queue = [] ∨ s.read ≠ none := by
  rw [← Bool.not_eq_true, readWaits_iff, not_and_or, not_not]

theorem beginPosts_cases (n : Integrity) : ∀ k ∈ beginPosts n, k = .coeffState := by
  unfold beginPosts
  split <;> simp

theorem readSetBegin_taken {s : State} (ha : Awake s) {i : Nat} {rest : List Nat} (hqueue : s.integrity.queue = i :: rest)
    (hrun : s.store.running = none) (hread : s.read = none) :
    ∃ t, exec .readSetBegin s = .next t ∧ Only [.integrity, .read, .store, .link] s t ∧
      Begins s.integrity s.store t ∧ Sends s.link t [] [.coeffState] := by
  have hwaits : readWaits s = true := (readWaits_iff s).mpr ⟨by simp [hqueue], hread⟩
  have heffect : effect .readSetBegin s = grantNext s := by
    rw [grantNext, if_pos hwaits]
    exact if_pos ⟨hrun, hwaits⟩
  obtain ⟨hbegins, hposts⟩ := grantNext_begins hread hrun
  have hone : beginPosts s.integrity = [.coeffState] := if_neg (by simp [hqueue])
  rw [hone] at hposts
  obtain ⟨t, hx, honly, hsends⟩ := event_sends ha (f := effect .readSetBegin) (heffect ▸ hposts) (by decide)
  rw [heffect] at honly
  exact ⟨t, hx, (grantNext_only s).comp honly, hbegins.of_frame honly, hsends⟩

theorem readSetBegin_idle {s : State} (ha : Awake s) (h : ¬(s.store.running = none ∧ readWaits s = true)) :
    exec .readSetBegin s = .next s := by
  have heffect : effect .readSetBegin s = s := if_neg h
  have hx := event_quiet ha (f := effect .readSetBegin) (by rw [heffect])
  rwa [heffect] at hx

/-- Settles O40: a read is begun at a free controller when one waits, and a host operation when none does. -/
theorem storeOperationsBegin : Obligations.StoreOperationsBegin := by
  intro s ha _
  constructor
  · cases hqueue : s.integrity.queue with
    | nil => exact ⟨s, readSetBegin_idle ha (by simp [readWaits_iff, hqueue]), rfl⟩
    | cons i rest =>
      dsimp only
      by_cases h : s.store.running = none ∧ s.read = none
      · obtain ⟨t, hx, honly, hbegins, hsends⟩ := readSetBegin_taken ha hqueue h.1 h.2
        unfold Begins at hbegins
        rw [hqueue] at hbegins
        obtain ⟨hint, hread, hstore⟩ := hbegins
        rw [sets_modify_eq_set] at hint
        exact ⟨t, hx, (if_pos h).mpr ⟨honly, hint, hread, hstore, hsends⟩⟩
      · exact ⟨s, readSetBegin_idle ha fun hw => h ⟨hw.1, ((readWaits_iff s).mp hw.2).2⟩, (if_neg h).mpr rfl⟩
  · rw [exec_quiet ha]
    simp only [effect, readWaits_eq_false_iff, beginHost]
    cases s.store.waiting with
    | none => exact congrArg _ (ite_self s)
    | some op => rfl

end Sys2Proof
end

section
/-! SUPPORT. The completions of the store controller: how a restore read ends, how a save and CLOSE end, and what the freed
controller begins then. -/

set_option Elab.async false

namespace Sys2Proof

open Sys2Proof.Machine

/-! ## The outcomes of a restore read (R155, R156, R159) -/

theorem restoreFails_integrity (i : Nat) (s : State) : (restoreFails i s).integrity = { s.integrity with
    sets := s.integrity.sets.modify i fun e => { e with state := .failed }
    secondFailures := min 65535 (s.integrity.secondFailures + 1), last := some ⟨i, .failed, false⟩ } := by
  rw [restoreFails, recordTransition_integrity]
  rfl

theorem restoreFails_place_integrity (i : Nat) (w : Words) (s : State) :
    (restoreFails i (s.modifySet i (CoeffSet.place w))).integrity = { s.integrity with
      sets := s.integrity.sets.modify i fun e => { e.place w with state := .failed }
      secondFailures := min 65535 (s.integrity.secondFailures + 1), last := some ⟨i, .failed, false⟩ } := by
  rw [restoreFails_integrity, State.modifySet, State.withIntegrity_integrity, List.modify_modify_eq]
  rfl

theorem restoreFails_postsJust (i : Nat) (s : State) : PostsJust [.coeffState] s (restoreFails i s) :=
  (PostsJust.post .coeffState _).after rfl

theorem restoreSucceeds_integrity (i : Nat) (w : Words) (s : State) : (restoreSucceeds i w s).integrity = { s.integrity with
    sets := s.integrity.sets.modify i fun e => { e.place w with state := .good, unsaved := false }
    restored := min 65535 (s.integrity.restored + 1), last := some ⟨i, .good, (s.coeffSet i).unsaved⟩ } := by
  rw [restoreSucceeds, recordTransition_integrity, (clearFault_only _ _).integrity]
  rfl

theorem restoreSucceeds_postsJust (i : Nat) (w : Words) (s : State) : PostsJust [.coeffState] s (restoreSucceeds i w s) :=
  (PostsJust.post .coeffState _).after (clearFault_only _ _).link

theorem fixedAllGood_eq_true_iff (s : State) (c : Nat) :
    fixedAllGood s c = true ↔ ∀ k ∈ List.range 6, (s.integrity.sets.getD (6 * c + k) CoeffSet.reset).state = .good := by
  rw [fixedAllGood, List.all_eq_true]
  exact forall₂_congr fun _ _ => decide_eq_true_iff

theorem clearFault_output (i : Nat) (s : State) : (clearFault i s).output =
    if i < 144 ∧ ∀ k ∈ List.range 6, (s.integrity.sets.getD (6 * (i / 6) + k) CoeffSet.reset).state = .good then
      s.output.modify (i / 6) (OutChan.removeReason .fault)
    else s.output := by
  unfold clearFault
  rw [apply_ite State.output]
  exact if_congr (and_congr_right' (fixedAllGood_eq_true_iff s _)) rfl rfl

theorem restoreSucceeds_output (i : Nat) (w : Words) (s : State) : (restoreSucceeds i w s).output =
    if i < 144 ∧ ∀ k ∈ List.range 6,
        ((restoreSucceeds i w s).integrity.sets.getD (6 * (i / 6) + k) CoeffSet.reset).state = .good then
      s.output.modify (i / 6) (OutChan.removeReason .fault)
    else s.output := by
  rw [restoreSucceeds_integrity, restoreSucceeds, (recordTransition_only _ _ _ _).output, clearFault_output]
  rfl

/-- A read that counts announces its transition, a discarded one nothing. -/
theorem readOutcome_postsJust (r : ReadRec) (ok : Bool) (s : State) :
    PostsJust (if r.discard = true then [] else [.coeffState]) s (readOutcome r ok s) := by
  cases hd : r.discard with
  | true =>
    rw [readOutcome_discarded hd]
    exact .of_link rfl
  | false =>
    cases hcopy : r.copy with
    | none =>
      rw [readOutcome_damaged hd hcopy]
      exact restoreFails_postsJust _ s
    | some w =>
      cases ok with
      | true =>
        rw [readOutcome_restored hd hcopy]
        exact restoreSucceeds_postsJust _ w s
      | false =>
        rw [readOutcome_failed hd hcopy]
        exact (restoreFails_postsJust _ _).after rfl

/-- The outcome of a read leaves the queue, from which the read took its set when it began. -/
theorem readOutcome_queue (r : ReadRec) (ok : Bool) (s : State) :
    (readOutcome r ok s).integrity.queue = s.integrity.queue := by
  cases hd : r.discard with
  | true => rw [readOutcome_discarded hd]
  | false =>
    cases hcopy : r.copy with
    | none => rw [readOutcome_damaged hd hcopy, restoreFails_integrity]
    | some w =>
      cases ok with
      | true => rw [readOutcome_restored hd hcopy, restoreSucceeds_integrity]
      | false => rw [readOutcome_failed hd hcopy, restoreFails_integrity]; rfl

/-! ## The freed controller (R165) -/

/-- A command whose effect ends with the freed controller beginning what waits. -/
theorem exec_freed {c : Instr} {s v : State} {ns : List Notice} (ha : Awake s) (hc : outside c = false)
    (heffect : effect c s = grantNext v) (hread : v.read = none) (hidle : v.store.running = none)
    (hposts : PostsJust ns s (grantNext v)) (hclip : Notice.clip ∉ ns) :
    ∃ t, exec c s = .next t ∧ Only [.link] (grantNext v) t ∧ Begins v.integrity v.store t ∧ Sends s.link t [] ns := by
  obtain ⟨t, hx, honly, hsends⟩ := event_sends ha (f := effect c) (heffect ▸ hposts) hclip
  rw [heffect] at honly
  exact ⟨t, (exec_event hc s).trans hx, honly, (grantNext_begins hread hidle).1.of_frame honly, hsends⟩

/-- An effect that changes nothing. -/
theorem exec_unchanged {c : Instr} {s : State} (ha : Awake s) (hc : outside c = false) (h : effect c s = s) :
    exec c s = .next s := by
  have hx := event_quiet ha (f := effect c) (by rw [h])
  rw [exec_event hc, hx, h]

theorem clip_not_mem_beginPosts (n : Integrity) : Notice.clip ∉ beginPosts n := fun h => by
  cases beginPosts_cases n _ h

/-! ## The end of a restore read (R155, R156, R159, R165) -/

theorem readSetComplete_ends {s : State} {r : ReadRec} (ha : Awake s) (hread : s.read = some r) (ok : Bool) :
    ∃ t, exec (.readSetComplete ok) s = .next t ∧ Only [.integrity, .output, .read, .store, .link] s t ∧
      Begins (readOutcome r ok (readFreed s)).integrity { s.store with running := none } t ∧
      t.output = (readOutcome r ok (readFreed s)).output ∧
      Sends s.link t []
        (if r.discard = true then beginPosts (readOutcome r ok (readFreed s)).integrity else [.coeffState]) := by
  have houtcome := readOutcome_only r ok (readFreed s)
  have hnone : (readOutcome r ok (readFreed s)).read = none := houtcome.read
  have hstore : (readOutcome r ok (readFreed s)).store = { s.store with running := none } := houtcome.store
  have hidle : (readOutcome r ok (readFreed s)).store.running = none := by rw [hstore]
  have heffect : effect (.readSetComplete ok) s = grantNext (readOutcome r ok (readFreed s)) := by
    change completeRead ok s = _
    rw [completeRead, hread]
    rfl
  have hgrant := (grantNext_begins hnone hidle).2
  have hposts : PostsJust
      (if r.discard = true then beginPosts (readOutcome r ok (readFreed s)).integrity else [.coeffState]) s
      (grantNext (readOutcome r ok (readFreed s))) := by
    have hfirst : PostsJust _ s (readOutcome r ok (readFreed s)) := (readOutcome_postsJust r ok (readFreed s)).after rfl
    split at hfirst
    next hd => rw [if_pos hd]; simpa using hfirst.trans hgrant (by simp)
    next hd => rw [if_neg hd]; exact hfirst.trans_again hgrant fun k hk => by simp [beginPosts_cases _ k hk]
  obtain ⟨t, hx, honly, hbegins, hsends⟩ := exec_freed ha rfl heffect hnone hidle hposts (by
    split
    · exact clip_not_mem_beginPosts _
    · decide)
  rw [hstore] at hbegins
  refine ⟨t, hx, ?_, hbegins, honly.output.trans (grantNext_only _).output, hsends⟩
  have heffectOnly : Only [.integrity, .output, .read, .store, .link] s (effect (.readSetComplete ok) s) :=
    (completeRead_only ok s).mono (by decide)
  exact heffectOnly.comp (heffect ▸ honly)

/-- Settles O41: a read that is discarded, whose copy was damaged, and whose copy passes the re-check or fails it. -/
theorem restoreReadCompletes : Obligations.RestoreReadCompletes := by
  intro ok s ha _ _
  cases hread : s.read with
  | none => exact ⟨s, exec_unchanged ha rfl (by simp [effect, completeRead, hread]), rfl⟩
  | some r =>
    obtain ⟨t, hx, honly, hbegins, hout, hsends⟩ := readSetComplete_ends ha hread ok
    refine ⟨t, hx, honly, ?_⟩
    cases hd : r.discard with
    | true =>
      rw [readOutcome_discarded hd] at hbegins hout hsends
      rw [if_pos hd] at hsends
      exact ⟨hbegins, hout, hsends⟩
    | false =>
      rw [if_neg (by simp [hd])] at hsends
      cases hcopy : r.copy with
      | none =>
        rw [readOutcome_damaged hd hcopy] at hbegins hout
        rw [restoreFails_integrity, sets_modify_eq_set] at hbegins
        exact ⟨hbegins, hout.trans (restoreFails_only _ _).output, hsends⟩
      | some w =>
        cases ok with
        | true =>
          rw [readOutcome_restored hd hcopy] at hbegins hout
          rw [restoreSucceeds_output] at hout
          rw [restoreSucceeds_integrity, sets_modify_eq_set] at hbegins hout
          exact ⟨hbegins, hout, hsends⟩
        | false =>
          rw [readOutcome_failed hd hcopy] at hbegins hout
          rw [restoreFails_place_integrity, sets_modify_eq_set] at hbegins
          exact ⟨hbegins, hout.trans (restoreFails_only _ _).output, hsends⟩

/-! ## The end of a save and of CLOSE (R157, R166, R167) -/

/-- The store with a host operation done. -/
def hostFreed (op : HostOp) (ok : Bool) (st : Store) : Store :=
  { st.saved op ok with running := none, lastDone := some (op.code, ok) }

theorem hostDone_store (op : HostOp) (ok : Bool) (s : State) : (hostDone op ok s).store = hostFreed op ok s.store :=
  (post_only _ _).store

theorem hostFreed_waiting (op : HostOp) (ok : Bool) (st : Store) : (hostFreed op ok st).waiting = st.waiting := by
  cases op <;> rfl

/-- The end of a host operation, over the state `v` in which the controller is freed: the checker's records may have changed
there beside the store (R157). -/
theorem hostOperation_ends {c : Instr} {s v : State} {op : HostOp} {ok : Bool} (ha : Awake s) (hro : ReadOk s)
    (hc : outside c = false) (hrun : s.store.running = some (.host op)) (heffect : effect c s = grantNext v)
    (hv : Only [.integrity] (hostDone op ok s) v) :
    ∃ t, exec c s = .next t ∧ Only [.integrity, .read, .store, .link] s t ∧
      Begins v.integrity (hostFreed op ok s.store) t ∧ Sends s.link t [] (.storeDone :: beginPosts v.integrity) := by
  have hdone := hostDone_only op ok s
  have hread : v.read = none := by
    rw [hv.read, hdone.read]
    by_contra h
    cases (hro.1.mp h).symm.trans hrun
  have hstore : v.store = hostFreed op ok s.store := hv.store.trans (hostDone_store op ok s)
  have hidle : v.store.running = none := by rw [hstore]; rfl
  have hpost : PostsJust [.storeDone] s (hostDone op ok s) := (PostsJust.post .storeDone _).after rfl
  have hfirst : PostsJust [.storeDone] s v := hpost.then hv.link
  have hposts := hfirst.trans (grantNext_begins hread hidle).2 fun k hk => by simp [beginPosts_cases _ k hk]
  obtain ⟨t, hx, honly, hbegins, hsends⟩ := exec_freed ha hc heffect hread hidle hposts (by
    simpa using clip_not_mem_beginPosts v.integrity)
  rw [hstore] at hbegins
  exact ⟨t, hx, (((hdone.comp hv (n := [.integrity, .store, .link])).comp (grantNext_only v)
    (n := [.integrity, .read, .store, .link])).comp honly), hbegins, hsends⟩

/-- The checker's records when a host operation is done: a verified SAVE FACTORY clears unsaved marks (R157). -/
def integrityAfter (op : HostOp) (ok : Bool) (n : Integrity) : Integrity :=
  match op, ok with
  | .saveFactory _, true => { n with sets := n.sets.map fun e => { e with unsaved := e.unsaved && e.writtenSince } }
  | _, _ => n

theorem integrityAfter_saveFactory (f : FactoryImage) (ok : Bool) (n : Integrity) :
    integrityAfter (.saveFactory f) ok n = if ok = true then
      { n with sets := n.sets.map fun e => { e with unsaved := e.unsaved && e.writtenSince } } else n := by
  cases ok <;> rfl

theorem integrityAfter_queue (op : HostOp) (ok : Bool) (n : Integrity) : (integrityAfter op ok n).queue = n.queue := by
  unfold integrityAfter
  split <;> rfl

theorem integrityAfter_sets_length (op : HostOp) (ok : Bool) (n : Integrity) :
    (integrityAfter op ok n).sets.length = n.sets.length := by
  unfold integrityAfter
  split
  · exact List.length_map _
  · rfl

/-- A save, and CLOSE, end alike: what has been done takes the place of what was outstanding. -/
def HostOperationEnds (op : HostOp) (ok : Bool) (s t : State) : Prop :=
  Only [.integrity, .read, .store, .link] s t ∧ Begins (integrityAfter op ok s.integrity) (hostFreed op ok s.store) t ∧
    Sends s.link t [] (.storeDone :: beginPosts (integrityAfter op ok s.integrity))

theorem saveComplete_ends {s : State} {op : HostOp} (ha : Awake s) (hro : ReadOk s)
    (hrun : s.store.running = some (.host op)) (hop : op ≠ .close) (ok : Bool) :
    ∃ t, exec (.saveComplete ok) s = .next t ∧ HostOperationEnds op ok s t := by
  have heffect : effect (.saveComplete ok) s = completeSave ok s := rfl
  have hint : (hostDone op ok s).integrity = s.integrity := (hostDone_only op ok s).integrity
  rw [completeSave, hrun] at heffect
  unfold HostOperationEnds
  rw [← hint]
  cases op with
  | saveFactory f =>
    cases ok with
    | true => exact hostOperation_ends ha hro rfl hrun (v := clearUnsaved _) heffect (withIntegrity_only _ _)
    | false => exact hostOperation_ends ha hro rfl hrun heffect (.refl _ _)
  | saveDealer l => exact hostOperation_ends ha hro rfl hrun heffect (.refl _ _)
  | saveStart sc => exact hostOperation_ends ha hro rfl hrun heffect (.refl _ _)
  | close => exact absurd rfl hop

theorem closeComplete_ends {s : State} (ha : Awake s) (hro : ReadOk s) (hrun : s.store.running = some (.host .close))
    (ok : Bool) : ∃ t, exec (.closeComplete ok) s = .next t ∧ HostOperationEnds .close ok s t := by
  have heffect : effect (.closeComplete ok) s = completeClose ok s := rfl
  have hint : (hostDone .close ok s).integrity = s.integrity := (hostDone_only .close ok s).integrity
  rw [completeClose, hrun] at heffect
  unfold HostOperationEnds
  rw [← hint]
  exact hostOperation_ends ha hro rfl hrun heffect (.refl _ _)

/-- Settles O44: each save that runs, a CLOSE that runs, and the completions of what does not run. -/
theorem hostOperationsComplete : Obligations.HostOperationsComplete := by
  intro ok s ha hro
  have hnoSave (h : ∀ op, s.store.running = some (.host op) → op = .close) : exec (.saveComplete ok) s = .next s := by
    refine exec_unchanged ha rfl ?_
    change completeSave ok s = s
    unfold completeSave
    split
    next image hrun => cases h _ hrun
    next l hrun => cases h _ hrun
    next sc hrun => cases h _ hrun
    next => rfl
  dsimp only
  constructor
  · cases hrun : s.store.running with
    | none => exact ⟨s, hnoSave (by simp [hrun]), rfl⟩
    | some running =>
      cases running with
      | load => exact ⟨s, hnoSave (by simp [hrun]), rfl⟩
      | readSet => exact ⟨s, hnoSave (by simp [hrun]), rfl⟩
      | host op =>
        cases op with
        | saveFactory f =>
          have hends := saveComplete_ends ha hro hrun nofun ok
          unfold HostOperationEnds at hends
          rw [integrityAfter_saveFactory] at hends
          exact hends
        | saveDealer l => exact saveComplete_ends ha hro hrun nofun ok
        | saveStart sc => exact saveComplete_ends ha hro hrun nofun ok
        | close => exact ⟨s, hnoSave (by simp [hrun]), rfl⟩
  · by_cases hrun : s.store.running = some (.host .close)
    · obtain ⟨t, hx, hends⟩ := closeComplete_ends ha hro hrun ok
      exact ⟨t, hx, (if_pos hrun).mpr hends⟩
    · refine ⟨s, exec_unchanged ha rfl ?_, (if_neg hrun).mpr rfl⟩
      change completeClose ok s = s
      unfold completeClose
      split
      next h => exact absurd h hrun
      next => rfl

/-! ## Reads before host operations (R154, R165) -/

/-- What the controller does next where the queue is `queue`: the read of its head, else the waiting host operation. -/
def Serves (queue : List Nat) (s t : State) : Prop :=
  match queue with
  | i :: rest =>
    t.store.running = some .readSet ∧ t.store.waiting = s.store.waiting ∧ t.integrity.queue = rest ∧
      (t.coeffSet i).state = .restoring ∧
      let copy := t.store.factory.sets.getD i ⟨passThrough, false⟩
      t.read = some ⟨i, false, if t.store.factoryState = .valid ∧ copy.checkOk = true then some copy.words else none⟩
  | [] => t.integrity.queue = [] ∧ t.read = none ∧ t.store.waiting = none ∧
      t.store.running = s.store.waiting.map StoreOp.host

theorem Begins.serves {n : Integrity} {st : Store} {s t : State} {queue : List Nat} (h : Begins n st t)
    (hqueue : n.queue = queue) (hmem : ∀ i ∈ queue, i < n.sets.length) (hwaiting : st.waiting = s.store.waiting) :
    Serves queue s t := by
  unfold Begins at h
  cases queue with
  | nil =>
    rw [hqueue] at h
    obtain ⟨hint, hread, hstore⟩ := h
    refine ⟨by rw [hint, hqueue], hread, by rw [hstore], ?_⟩
    rw [hstore, hwaiting]
  | cons i rest =>
    rw [hqueue] at h
    obtain ⟨hint, hread, hstore⟩ := h
    have hlt : i < n.sets.length := hmem i List.mem_cons_self
    refine ⟨by rw [hstore], by rw [hstore, hwaiting], by rw [hint], ?_, by rw [hstore, hread]⟩
    simp [State.coeffSet, hint, hlt]

/-- LOAD from a VALID region makes every set GOOD, and nothing waits in the queue (R173). -/
theorem loadComplete_valid_serves {s : State} (ha : Awake s) (hshape : ShapeOk s) (hq : QueueOk s) (hread : s.read = none)
    (hload : s.store.running = some .load) (hv : s.store.factoryState = .valid) :
    ∃ t, exec .loadComplete s = .next t ∧ Serves [] s t := by
  have hsets : s.store.factory.sets.length = 344 := hshape.2.2.2.2.1.2
  have hint := loadPlaced_integrity hq hread hsets
  rw [← (loadPatched_only s).integrity] at hint
  have hqueue : (loadPatched s).integrity.queue = [] := by rw [hint]
  obtain ⟨t, hx, -, -, -, -, -, -, hbegins, -⟩ := loadComplete_ends ha hshape
    (completeLoad_valid hload hv) (loadPlaced_read hread) (loadPlaced_store s) (loadPlaced_planner s) rfl
    ((loadPlaced_postsJust hread hsets).then (loadPatched_only s).link)
    (fun n hn hmem => by
      rw [beginPosts, if_pos hqueue] at hn
      cases List.mem_singleton.mp hn
      simpa using mem_loadPosts hmem)
    (fun hmem => by simpa using mem_loadPosts hmem)
  exact ⟨t, hx, hbegins.serves hqueue nofun rfl⟩

/-- A LOAD from no VALID region leaves the checker's records (R173). -/
theorem loadComplete_invalid_begins {s : State} (ha : Awake s) (hshape : ShapeOk s) (hread : s.read = none)
    (hload : s.store.running = some .load) (hv : s.store.factoryState ≠ .valid) :
    ∃ t, exec .loadComplete s = .next t ∧ Begins s.integrity { s.store with running := none } t := by
  have hu := loadUnplaced_only s
  obtain ⟨t, hx, -, -, -, -, -, -, hbegins, -⟩ := loadComplete_ends ha hshape
    (completeLoad_invalid hload hv) (hu.read.trans hread) (loadUnplaced_store s) hu.planner (loadUnplaced_patches s)
    (.of_link hu.link) (fun _ _ => List.not_mem_nil) List.not_mem_nil
  rw [hu.integrity] at hbegins
  exact ⟨t, hx, hbegins⟩

/-- Settles O42: each of the four completions frees the controller with the queue as it stood, but a LOAD from a VALID region,
which empties it. -/
theorem freedControllerServesReadsFirst : Obligations.FreedControllerServesReadsFirst := by
  intro c s ha hshape hq hro hcompletes
  have hmem : ∀ i ∈ s.integrity.queue, i < s.integrity.sets.length := fun i hi => by
    obtain ⟨hlen, -, hsuspect⟩ := hq
    exact ((hsuspect i).mp hi).1.trans_eq hlen.symm
  have hserves {n : Integrity} {st : Store} {t : State} (h : Begins n st t) (hqueue : n.queue = s.integrity.queue)
      (hsets : n.sets.length = s.integrity.sets.length) (hwaiting : st.waiting = s.store.waiting) :
      Serves s.integrity.queue s t := h.serves hqueue (by rw [hsets]; exact hmem) hwaiting
  obtain ⟨⟨ok, rfl⟩, hrun⟩ | ⟨rfl, hload⟩ | ⟨⟨ok, rfl⟩, op, hrun, hop⟩ | ⟨⟨ok, rfl⟩, hrun⟩ := hcompletes
  · obtain ⟨r, hread⟩ := Option.ne_none_iff_exists'.mp (hro.1.mpr hrun)
    obtain ⟨t, hx, -, hbegins, -, -⟩ := readSetComplete_ends ha hread ok
    refine ⟨t, hx, ?_⟩
    rw [if_neg nofun]
    exact hserves hbegins (readOutcome_queue r ok _) (readOutcome_keepsCounts r ok (readFreed s)).2.2 rfl
  · have hread : s.read = none := by
      by_contra h
      cases (hro.1.mp h).symm.trans hload
    by_cases hv : s.store.factoryState = .valid
    · rw [if_pos ⟨rfl, hv⟩]
      exact loadComplete_valid_serves ha hshape hq hread hload hv
    · obtain ⟨t, hx, hbegins⟩ := loadComplete_invalid_begins ha hshape hread hload hv
      refine ⟨t, hx, ?_⟩
      rw [if_neg fun h => hv h.2]
      exact hserves hbegins rfl rfl rfl
  · obtain ⟨t, hx, -, hbegins, -⟩ := saveComplete_ends ha hro hrun hop ok
    refine ⟨t, hx, ?_⟩
    rw [if_neg nofun]
    exact hserves hbegins (integrityAfter_queue _ _ _) (integrityAfter_sets_length _ _ _) (hostFreed_waiting _ _ _)
  · obtain ⟨t, hx, -, hbegins, -⟩ := closeComplete_ends ha hro hrun ok
    refine ⟨t, hx, ?_⟩
    rw [if_neg nofun]
    exact hserves hbegins (integrityAfter_queue _ _ _) (integrityAfter_sets_length _ _ _) (hostFreed_waiting _ _ _)

end Sys2Proof
end

section
/-! SUPPORT. TABLE_READ: its refusals, and what a read returns read back by a write. -/

set_option Elab.async false

namespace Sys2Proof

open Sys2Proof.Machine

/-! ## Numbers as bytes and back (R177) -/

theorem byteOf_natCast_toNat {n : Nat} (h : n ≤ 255) : (byteOf (n : Int)).toNat = n := by
  simp only [byteOf, BitVec.toNat_ofInt]
  omega

/-- Two bytes read as a pattern of 16 bits are the number they carry. -/
theorem bytes2_append (v : Int) : (BitVec.ofInt 8 (v / 256) ++ BitVec.ofInt 8 v : BitVec 16) = BitVec.ofInt 16 v := by
  apply BitVec.eq_of_toNat_eq
  rw [BitVec.toNat_append, ← Nat.shiftLeft_add_eq_or_of_lt (BitVec.isLt _), Nat.shiftLeft_eq]
  simp only [BitVec.toNat_ofInt]
  omega

theorem numOfBytes_bytes2 {v : Int} (h : -32768 ≤ v ∧ v ≤ 32767) : numOfBytes (bytes2 v) = v := by
  change (BitVec.ofInt 8 (v / 256) ++ BitVec.ofInt 8 v : BitVec 16).toInt = v
  rw [bytes2_append, BitVec.toInt_ofInt]
  exact Int.bmod_eq_of_le (by simpa using h.1) (by have := h.2; norm_num; omega)

theorem numOfBytes_byteOf {v : Int} (h : 0 ≤ v ∧ v ≤ 255) : numOfBytes [byteOf v] = v := by
  obtain ⟨n, rfl⟩ := Int.eq_ofNat_of_zero_le h.1
  change ((byteOf (n : Int)).toNat : Int) = n
  rw [byteOf_natCast_toNat (by omega)]

theorem u16_bytes2 {n : Nat} (h : n ≤ 65535) : u16 (BitVec.ofInt 8 ((n : Int) / 256)) (BitVec.ofInt 8 n) = n := by
  simp only [u16, BitVec.toNat_ofInt]
  omega

/-! ## Records as bytes and back (R190) -/

theorem yesNo_flagByte (b : Bool) : yesNo (flagByte b) = some b := by cases b <;> rfl

theorem curvePoint_ofBytes_bytes {p : CurvePoint} (h : p.speed ≤ 255 ∧ p.boost ≤ 48) : CurvePoint.ofBytes p.bytes = some p := by
  simp [CurvePoint.bytes, CurvePoint.ofBytes, yesNo_flagByte, byteOf_natCast_toNat h.1,
    byteOf_natCast_toNat (h.2.trans (by decide : 48 ≤ 255)), h.2]

theorem classEntry_ofBytes_bytes {e : ClassEntry} (h : e.level ≤ 3 ∧ e.duck ≤ 480 ∧ e.maxDuration ≤ 255) :
    ClassEntry.ofBytes e.bytes = some e := by
  obtain ⟨hlevel, hduck, hmost⟩ := h
  have hu := u16_bytes2 (hduck.trans (by decide : 480 ≤ 65535))
  simp only [ClassEntry.bytes, bytes2, List.cons_append, List.nil_append, ClassEntry.ofBytes, yesNo_flagByte, hu,
    byteOf_natCast_toNat (hlevel.trans (by decide : 3 ≤ 255)), byteOf_natCast_toNat hmost, Option.bind_eq_bind,
    Option.bind_some]
  exact if_neg (by omega)

/-- Byte 0 of a CH_ROUTE entry carries the enabled mark and three codes. -/
theorem routeByte0_reads (enabled : Bool) (zone : Zone) (leg : Leg) (side : Side) :
    let b := BitVec.ofNat 8 ((if enabled then 128 else 0) + 16 * zone.code + 4 * leg.code + side.code)
    enabled = b.getLsbD 7 ∧ [Zone.front, .rear, .cabin][b.toNat / 16 % 4]? = some zone ∧
      [Leg.left, .right, .sum][b.toNat / 4 % 4]? = some leg ∧ [Side.left, .centre, .right][b.toNat % 4]? = some side := by
  cases enabled <;> cases zone <;> cases leg <;> cases side <;> decide

/-- Byte 1 carries the row's code, the exempt mark and the polarity. -/
theorem routeByte1_reads (row : Row) (exempt : Bool) (polarity : Polarity) :
    let b := BitVec.ofNat 8 (64 * row.code + (if exempt then 32 else 0) + (if polarity = .inverted then 16 else 0))
    [Row.front, .mid, .back][b.toNat / 64]? = some row ∧ exempt = b.getLsbD 5 ∧
      polarity = if b.getLsbD 4 = true then .inverted else .normal := by
  cases row <;> cases exempt <;> cases polarity <;> decide

/-- Byte 2 carries the marks of the four seats. -/
theorem routeByte2_reads (seats : Seats) :
    let b := marksByte [seats.frontLeft, seats.frontRight, seats.rearLeft, seats.rearRight]
    seats = ⟨b.getLsbD 0, b.getLsbD 1, b.getLsbD 2, b.getLsbD 3⟩ ∧ b.toNat < 16 := by
  obtain ⟨a, b, c, d⟩ := seats
  cases a <;> cases b <;> cases c <;> cases d <;> decide

theorem route_ofBytes_bytes {r : Route} (h : r.toneGroup ≤ 3) : Route.ofBytes r.bytes = some r := by
  have hgroup : (BitVec.ofNat 8 r.toneGroup).toNat = r.toneGroup := by
    rw [BitVec.toNat_ofNat]
    omega
  refine (routeOfBytes_iff #v[_, _, _, _] r).mpr ⟨routeByte0_reads _ _ _ _, routeByte1_reads _ _ _,
    routeByte2_reads _, hgroup.symm, h⟩

/-! ## The entries of a table on the link -/

/-- The entries of a range as TABLE_READ sends them. -/
def entriesOnLink (s : State) (id : TableId) (first count : Nat) : List (List Byte) :=
  (List.range count).map fun i => entryOnLink s id (first + i)

theorem entryOnLink_length (s : State) (id : TableId) (i : Nat) : (entryOnLink s id i).length = id.entryBytes := by
  cases id <;> rfl

theorem entriesOnLink_sizes (s : State) (id : TableId) (first count : Nat) :
    ∀ e ∈ entriesOnLink s id first count, e.length = id.entryBytes := fun e he => by
  obtain ⟨i, -, rfl⟩ := List.mem_map.mp he
  exact entryOnLink_length s id _

theorem entriesOnLink_length (s : State) (id : TableId) (first count : Nat) :
    (entriesOnLink s id first count).length = count := by simp [entriesOnLink]

/-- A table whose entries are replaced by themselves is the same table. -/
theorem splice_own {α : Type} {l : List α} {first count : Nat} (h : first + count ≤ l.length) (d : α) :
    splice l first ((List.range count).map fun i => l.getD (first + i) d) = l := by
  have hown : ((List.range count).map fun i => l.getD (first + i) d) = (l.drop first).take count := by
    refine List.ext_getElem (by simp; omega) fun i hi _ => ?_
    have hlt : first + i < l.length := by
      simp only [List.length_map, List.length_range] at hi
      omega
    simp [hlt]
  have hlen : ((l.drop first).take count).length = count := by simp; omega
  rw [splice, hown, hlen, List.append_assoc, ← List.drop_drop, List.take_append_drop, List.take_append_drop]

/-! ## A write of what was read -/

/-- The state `t` is `s` with a write taken that leaves the working tables; what it posts is never CLIP. -/
def WrittenBack (s t : State) : Prop := t.tables = s.tables ∧ ∃ ns, PostsJust ns s t ∧ Notice.clip ∉ ns

theorem WrittenBack.of_link {s t : State} (htables : t.tables = s.tables) (hlink : t.link = s.link) : WrittenBack s t :=
  ⟨htables, [], .of_link hlink, List.not_mem_nil⟩

theorem putNums_nums (t : Tables) (id : TableId) : t.putNums id (t.nums id) = t := by cases id <;> rfl

theorem acceptNums_writtenBack (id : TableId) (first k : Nat) (s : State) :
    WrittenBack s (acceptNums id first k (s.tables.nums id) s) := by
  have htables : (acceptNums id first k (s.tables.nums id) s).tables = s.tables := by
    rw [acceptNums_tables, putNums_nums]
  cases id
  case globals =>
    obtain ⟨-, -, -, -, hlink⟩ := acceptNums_globals_acts first k (s.tables.nums .globals) s
    exact ⟨htables, _, hlink, by split <;> decide⟩
  all_goals exact .of_link htables rfl

theorem acceptClasses_writtenBack (s : State) : WrittenBack s (acceptClasses s.tables.classes s) :=
  ⟨acceptClasses_tables _ s, _, arbitrate_link _, by split <;> decide⟩

/-- Every number of a valid table of two-byte numbers fits its two bytes. -/
theorem numbersMeet_short {id : TableId} {l : List Int} (hid : id ∈ numberTables) (hlen : l.length = id.entries)
    (h : NumbersMeet id l) {i : Nat} (hi : i < id.entries) : -32768 ≤ l.getD i 0 ∧ l.getD i 0 ≤ 32767 := by
  have hwithin {lo hi' : Int} (hw : Within lo hi' l) (hlo : -32768 ≤ lo) (hhi : hi' ≤ 32767) :
      -32768 ≤ l.getD i 0 ∧ l.getD i 0 ≤ 32767 := by
    rw [List.getD_eq_getElem _ _ (hi.trans_eq hlen.symm)]
    obtain ⟨hl, hu⟩ := hw _ (List.getElem_mem _)
    exact ⟨hlo.trans hl, hu.trans hhi⟩
  cases id
  case volume | annVolume | balance | fade =>
    obtain ⟨-, -, hw⟩ := h
    exact hwithin hw (by decide) (by decide)
  case trim | ceiling | annTrim | sdvWeight | delay => exact hwithin h (by decide) (by decide)
  case globals =>
    simp only [NumbersMeet, GlobalsMeet] at h
    simp only [TableId.entries] at hi
    interval_cases i <;> omega
  case speedCurve | classes | route | fixedSets | bassSets | trebleSets => exact absurd hid (by decide)

/-- An entry of a table of numbers reads as its number. -/
theorem numOfBytes_entryOnLink {s : State} (ht : TablesValid s.tables) {id : TableId} (hid : id ∈ numberTables) {i : Nat}
    (hi : i < id.entries) : numOfBytes (entryOnLink s id i) = (s.tables.nums id).getD i 0 := by
  obtain ⟨⟨hfull, -⟩, hmeet, -⟩ := ht
  have hshort := numbersMeet_short hid (hfull id hid) (hmeet id hid) hi
  cases id
  case sdvWeight =>
    have hw : Within 0 16 s.tables.sdvWeight := hmeet .sdvWeight hid
    have hlen : i < s.tables.sdvWeight.length := hi.trans_eq (hfull .sdvWeight hid).symm
    obtain ⟨hl, hu⟩ := hw _ (List.getElem_mem hlen)
    refine numOfBytes_byteOf ?_
    rw [List.getD_eq_getElem _ _ hlen]
    omega
  case speedCurve | classes | route | fixedSets | bassSets | trebleSets => exact absurd hid (by decide)
  all_goals exact numOfBytes_bytes2 hshort

section
variable {s : State} {first count : Nat}

/-- Records that read back one by one are read back together. -/
theorem mapM_bytes {ρ : Type} {bytes : ρ → List Byte} {f : List Byte → Option ρ} {l : List ρ} (d : ρ)
    (hf : ∀ r ∈ l, f (bytes r) = some r) (hr : first + count ≤ l.length) :
    ((List.range count).map fun i => bytes (l.getD (first + i) d)).mapM f =
      some ((List.range count).map fun i => l.getD (first + i) d) := by
  rw [mapM_eq_some_iff, List.forall₂_map_left_iff, List.forall₂_map_right_iff, List.forall₂_same]
  intro i hi
  have hlt : first + i < l.length := by
    have := List.mem_range.mp hi
    omega
  rw [List.getD_eq_getElem _ _ hlt]
  exact hf _ (List.getElem_mem hlt)

variable (ht : TablesValid s.tables)
include ht

theorem writeEntries_own_nums {id : TableId} (hid : id ∈ numberTables) (hr : first + count ≤ id.entries) :
    ∃ t, writeEntries id first (entriesOnLink s id first count) s = Handled.done t ∧ WrittenBack s t := by
  have ⟨⟨hfull, _⟩, hmeet, _⟩ := ht
  have hlen : (s.tables.nums id).length = id.entries := hfull id hid
  have hnums : (entriesOnLink s id first count).map numOfBytes =
      (List.range count).map fun i => (s.tables.nums id).getD (first + i) 0 := by
    rw [entriesOnLink, List.map_map]
    refine List.map_congr_left fun i hi => numOfBytes_entryOnLink ht hid ?_
    have := List.mem_range.mp hi
    omega
  have hok : numsOk id (s.tables.nums id) = true := (numsOk_iff id hlen).mpr (hmeet id hid)
  refine ⟨_, ?_, acceptNums_writtenBack id first count s⟩
  rw [writeEntries_nums hid, hnums, splice_own (hr.trans_eq hlen.symm), entriesOnLink_length]
  exact accepted_of_true hok _ _ _

theorem writeEntries_own_curve (hr : first + count ≤ 8) :
    ∃ t, writeEntries .speedCurve first (entriesOnLink s .speedCurve first count) s = Handled.done t ∧ WrittenBack s t := by
  obtain ⟨⟨-, hlen, -⟩, -, hcurve, -⟩ := ht
  have hr' : first + count ≤ s.tables.speedCurve.length := hr.trans_eq hlen.symm
  have hread : (entriesOnLink s .speedCurve first count).mapM CurvePoint.ofBytes = some _ :=
    mapM_bytes (⟨0, 0, false⟩ : CurvePoint) (fun p hp => curvePoint_ofBytes_bytes (hcurve.1 p hp)) hr'
  have hok := (curveOk_iff s.tables.speedCurve).mpr hcurve
  rw [Bool.and_eq_true] at hok
  refine ⟨acceptCurve s.tables.speedCurve s, ?_, .of_link rfl rfl⟩
  simp only [writeEntries, hread, splice_own hr']
  exact accepted_of_true hok.2 _ _ _

theorem writeEntries_own_classes (hr : first + count ≤ 4) :
    ∃ t, writeEntries .classes first (entriesOnLink s .classes first count) s = Handled.done t ∧ WrittenBack s t := by
  obtain ⟨⟨-, -, hlen, -⟩, -, -, hclasses, -⟩ := ht
  have hr' : first + count ≤ s.tables.classes.length := hr.trans_eq hlen.symm
  have hread : (entriesOnLink s .classes first count).mapM ClassEntry.ofBytes = some _ :=
    mapM_bytes (⟨0, 0, 0, false⟩ : ClassEntry) (fun e he => classEntry_ofBytes_bytes (hclasses e he)) hr'
  refine ⟨_, ?_, acceptClasses_writtenBack s⟩
  simp only [writeEntries, hread, splice_own hr']

theorem writeEntries_own_route (hr : first + count ≤ 24) :
    ∃ t, writeEntries .route first (entriesOnLink s .route first count) s = Handled.done t ∧ WrittenBack s t := by
  obtain ⟨⟨-, -, -, hlen⟩, -, -, -, hroute⟩ := ht
  have hr' : first + count ≤ s.tables.route.length := hr.trans_eq hlen.symm
  have hread : (entriesOnLink s .route first count).mapM Route.ofBytes = some _ :=
    mapM_bytes Route.builtin (fun r hr => route_ofBytes_bytes (hroute r hr)) hr'
  refine ⟨acceptRoute s.tables.route s, ?_, .of_link rfl rfl⟩
  simp only [writeEntries, hread, splice_own hr']

/-- What a read of a table but the coefficient tables returns is accepted, and leaves the table. -/
theorem writeEntries_own {id : TableId} (hid : id.firstSet = none) (hr : first + count ≤ id.entries) :
    ∃ t, writeEntries id first (entriesOnLink s id first count) s = Handled.done t ∧ WrittenBack s t := by
  cases id
  case speedCurve => exact writeEntries_own_curve ht hr
  case classes => exact writeEntries_own_classes ht hr
  case route => exact writeEntries_own_route ht hr
  case fixedSets | bassSets | trebleSets => cases hid
  all_goals exact writeEntries_own_nums ht (by decide) hr

end

/-- The entries of a coefficient table are the words of its sets. -/
theorem entriesOnLink_sets {id : TableId} {base : Nat} (h : id.firstSet = some base) (s : State) (first count : Nat) :
    (entriesOnLink s id first count).flatten =
      (List.range count).flatMap fun i => wordsBytes (s.coeffSet (base + first + i)).words := by
  simp only [entriesOnLink, ← List.flatMap_def, Nat.add_assoc]
  cases id <;> cases h <;> rfl

/-! ## TABLE_READ answered (R189) -/

theorem tableRead_answers {s : State} (h : Handles s) {tag code hi lo count : Byte} :
    ∃ t, exec (.tableRead tag [code, hi, lo, count]) s = .next t ∧ Only [.link, .draws] s t ∧
      Replies s t 0x08 tag (handleTableRead [code, hi, lo, count] (frameTaken s)).status
        (handleTableRead [code, hi, lo, count] (frameTaken s)).content [] := by
  obtain ⟨ha, hr, hl⟩ := h
  have hstate := handleTableRead_only [code, hi, lo, count] (frameTaken s)
  obtain ⟨t, hx, honly, hsends⟩ := request_sends ha hr (kind := 0x08) (tag := tag) (ready := true)
    (handle := handleTableRead [code, hi, lo, count]) (ns := []) (fun _ => hl)
    (by rw [hstate]; simp [afterFrame]) (by decide)
  rw [hstate] at honly
  exact ⟨t, hx, (frameTaken_only s).comp honly, hsends⟩

section
variable {s : State} {code hi lo count : Byte} {id : TableId}

theorem handleTableRead_unknown (h : TableId.ofCode code.toNat = none) :
    handleTableRead [code, hi, lo, count] s = Handled.refuse s .badId := by
  simp only [handleTableRead, h]

theorem handleTableRead_outside (h : TableId.ofCode code.toNat = some id)
    (hout : count.toNat = 0 ∨ 247 < count.toNat * id.entryBytes ∨ id.entries < u16 hi lo + count.toNat) :
    handleTableRead [code, hi, lo, count] s = Handled.refuse s .badRange := by
  simp only [handleTableRead, h]
  exact if_pos hout

/-- A read of a range inside its table is protected or returns the entries. -/
theorem handleTableRead_inside (h : TableId.ofCode code.toNat = some id) (hcount : 1 ≤ count.toNat)
    (hbytes : count.toNat * id.entryBytes ≤ 247) (hr : u16 hi lo + count.toNat ≤ id.entries) :
    handleTableRead [code, hi, lo, count] s =
      if s.store.closed = true ∧ id.firstSet.isSome = true then Handled.refuse s .isProtected
      else ⟨s, .ok, (entriesOnLink s id (u16 hi lo) count.toNat).flatten⟩ := by
  simp only [handleTableRead, h]
  rw [if_neg (by omega), List.flatMap_def]
  rfl

end

/-- A write of what a read of the same range returned. -/
theorem tableWrite_own {s : State} (h : Handles s) (ht : TablesOk s) {tag code hi lo : Byte} {id : TableId} {count : Nat}
    (hcode : TableId.ofCode code.toNat = some id) (hid : id.firstSet = none) (hcount : 1 ≤ count)
    (hbytes : count * id.entryBytes ≤ 245) (hr : u16 hi lo + count ≤ id.entries) :
    ∃ t, exec (.tableWrite tag (code :: hi :: lo :: (entriesOnLink s id (u16 hi lo) count).flatten)) s = .next t ∧
      t.tables = s.tables ∧ ∃ ns, Replies s t 0x07 tag .ok [] ns := by
  have hlen := entriesOnLink_length s id (u16 hi lo) count
  have hsizes := entriesOnLink_sizes s id (u16 hi lo) count
  have hne : entriesOnLink s id (u16 hi lo) count ≠ [] := List.ne_nil_of_length_pos (by omega)
  obtain ⟨u, hwrite, htables, ns, hposts, hclip⟩ := writeEntries_own (s := frameTaken s) ht.1 hid hr
  have hhandle := (handleTableWrite_entries (lo := lo) hcode hne hsizes (by rwa [hlen]) (frameTaken s)).trans hwrite
  obtain ⟨t, hx, honly, hreply⟩ := request_done h (kind := 0x07) (tag := tag) (ready := true) hhandle hposts hclip
  refine ⟨t, ?_, honly.tables.trans htables, ns, hreply⟩
  rw [exec_tableWrite (tableWrite_length (entryBytes_pos id) hne hsizes (by rwa [hlen])), hx]

/-- Settles O49: the refusals, a read written back, a read of coefficient words, and those words as bytes. -/
theorem tableReadWritesBack : Obligations.TableReadWritesBack := by
  refine ⟨fun tag code hi lo count s h => ?_, fun tag tag' code hi lo count id s h ht hcode hid hcount hbytes hr => ?_,
    fun tag code hi lo count id base s h hcode hbase hcount hbytes hr => ?_, wordsOfBytes_wordsBytes⟩
  · obtain ⟨t, hx, honly, hreply⟩ := tableRead_answers h (tag := tag) (code := code) (hi := hi) (lo := lo) (count := count)
    refine ⟨t, hx, ?_⟩
    cases hcode : TableId.ofCode code.toNat with
    | none =>
      rw [handleTableRead_unknown hcode] at hreply
      exact ⟨honly, hreply⟩
    | some id =>
      intro hout
      rw [handleTableRead_outside hcode (hout.imp_left fun hzero => by rw [hzero]; rfl)] at hreply
      exact ⟨honly, hreply⟩
  · obtain ⟨t, hx, honly, hreply⟩ := tableRead_answers h (tag := tag) (code := code) (hi := hi) (lo := lo) (count := count)
    obtain ⟨u, hx', htables, hwritten⟩ := tableWrite_own h ht (tag := tag') hcode hid hcount hbytes hr
    rw [handleTableRead_inside hcode hcount (by omega) hr, if_neg (by simp [hid])] at hreply
    refine ⟨_, t, u, hx, honly, hreply, ?_, hx', htables, hwritten⟩
    rw [length_flatten_of_forall (entriesOnLink_sizes _ id _ _), entriesOnLink_length]
  · obtain ⟨t, hx, honly, hreply⟩ := tableRead_answers h (tag := tag) (code := code) (hi := hi) (lo := lo) (count := count)
    obtain ⟨hsize, -⟩ := firstSet_entries hbase
    rw [handleTableRead_inside hcode hcount (by rwa [hsize]) hr] at hreply
    refine ⟨t, hx, ?_⟩
    by_cases hclosed : s.store.closed = true
    · rw [if_pos ⟨hclosed, by simp [hbase]⟩] at hreply
      rw [if_pos hclosed]
      exact ⟨honly, hreply⟩
    · rw [if_neg fun h => hclosed h.1, entriesOnLink_sets hbase] at hreply
      rw [if_neg hclosed]
      exact ⟨honly, hreply⟩

end Sys2Proof
end

section
/-! SUPPORT. The patch lists that the part holds: which events put a list anywhere, and the statement on their size. -/

set_option Elab.async false

namespace Sys2Proof

open Sys2Proof.Machine

/-! ## The lists that the part holds (R162, R164, R169) -/

/-- A list in the DEALER region, or captured by a SAVE DEALER that is outstanding. -/
def StoreHoldsList (st : Store) (l : List PatchRec) : Prop :=
  l = st.dealer ∨ st.waiting = some (.saveDealer l) ∨ st.running = some (.host (.saveDealer l))

/-- The working list, or one of the store's. -/
def HoldsList (s : State) (l : List PatchRec) : Prop := l = s.patches ∨ StoreHoldsList s.store l

theorem patchesOk_iff (s : State) : PatchesOk s ↔ ∀ l, HoldsList s l → PatchListOk l := by
  constructor
  · rintro ⟨hworking, hdealer, hwaiting, hrunning⟩ l (rfl | rfl | hw | hr)
    · exact hworking
    · exact hdealer
    · exact hwaiting _ hw
    · exact hrunning _ hr
  · intro h
    have captured (op : HostOp) (hop : ∀ l, op = .saveDealer l → PatchListOk l) : HostOpPatchesOk op := by
      cases op with
      | saveDealer l => exact hop l rfl
      | saveFactory f => trivial
      | saveStart sc => trivial
      | close => trivial
    exact ⟨h _ (.inl rfl), h _ (.inr (.inl rfl)),
      fun op hw => captured op fun l hop => h l (.inr (.inr (.inl (hop ▸ hw)))),
      fun op hr => captured op fun l hop => h l (.inr (.inr (.inr (hop ▸ hr))))⟩

theorem patchListOk_nil : PatchListOk [] := ⟨Nat.zero_le _, List.nodup_nil⟩

/-- Every list of the store `st'` stood in the store `st`. -/
def NoNewStored (st st' : Store) : Prop := ∀ l, StoreHoldsList st' l → StoreHoldsList st l

/-- Every list that the event leaves was there before, or is empty. -/
def NoNewList (s t : State) : Prop := ∀ l, HoldsList t l → HoldsList s l ∨ l = []

theorem PatchesOk.keep {s t : State} (hs : PatchesOk s) (h : NoNewList s t) : PatchesOk t := by
  rw [patchesOk_iff] at hs ⊢
  intro l hl
  obtain hold | rfl := h l hl
  · exact hs l hold
  · exact patchListOk_nil

theorem NoNewList.refl (s : State) : NoNewList s s := fun _ => .inl

theorem NoNewList.trans {s t u : State} (h : NoNewList s t) (h' : NoNewList t u) : NoNewList s u := fun l hl =>
  (h' l hl).elim (h l) .inr

theorem NoNewList.ite {s t u : State} {p : Prop} [Decidable p] (h : p → NoNewList s t) (h' : ¬p → NoNewList s u) :
    NoNewList s (if p then t else u) := by
  split
  · exact h ‹_›
  · exact h' ‹_›

/-- An event that leaves the working list puts no new one anywhere if it puts none in the store. -/
theorem NoNewList.of_store {l : List Block} {s t : State} (h : Only l s t) (hst : NoNewStored s.store t.store)
    (hp : Block.patches ∉ l := by decide) : NoNewList s t := fun x hx =>
  .inl (hx.imp (fun hx => hx.trans (h.patches hp)) (hst x))

theorem NoNewList.of_only {l : List Block} {s t : State} (h : Only l s t) (hst : Block.store ∉ l := by decide)
    (hp : Block.patches ∉ l := by decide) : NoNewList s t :=
  .of_store h (fun _ hx => h.store hst ▸ hx) hp

theorem PatchesOk.of_frame {l : List Block} {s t : State} (hs : PatchesOk s) (h : Only l s t)
    (hst : Block.store ∉ l := by decide) (hp : Block.patches ∉ l := by decide) : PatchesOk t :=
  hs.keep (.of_only h hst hp)

/-- An event that leaves the store keeps the invariant if it leaves a working list that meets it. -/
theorem PatchesOk.of_patches {l : List Block} {s t : State} (hs : PatchesOk s) (h : Only l s t)
    (hp : PatchListOk t.patches) (hst : Block.store ∉ l := by decide) : PatchesOk t := by
  rw [patchesOk_iff] at hs ⊢
  rintro x (rfl | hx)
  · exact hp
  · exact hs x (.inr (h.store hst ▸ hx))

/-! ## The working list (R170, R171) -/

theorem targets_iff (t : PatchTable) (i : Nat) (r : PatchRec) :
    r.targets t i = true ↔ r.table = t ∧ r.index = i := by
  simp [PatchRec.targets]

theorem any_targets_iff (t : PatchTable) (i : Nat) (l : List PatchRec) :
    l.any (PatchRec.targets t i) = true ↔ ∃ r ∈ l, r.table = t ∧ r.index = i := by
  simp only [List.any_eq_true, targets_iff]

theorem putRecord_of_any {t : PatchTable} {i : Nat} {l : List PatchRec} (h : l.any (PatchRec.targets t i) = true) (v : Int) :
    putRecord t i v l = l.map fun r => if r.targets t i then { r with value := v } else r := if_pos h

theorem putRecord_of_not_any {t : PatchTable} {i : Nat} {l : List PatchRec} (h : ¬l.any (PatchRec.targets t i) = true)
    (v : Int) : putRecord t i v l = l ++ [⟨t, i, v⟩] := if_neg h

/-- A record replaced, or one of a new target appended where fewer than 16 stand. -/
theorem PatchListOk.putRecord {l : List PatchRec} (hl : PatchListOk l) {t : PatchTable} {i : Nat}
    (hroom : l.any (PatchRec.targets t i) = true ∨ l.length < 16) (v : Int) : PatchListOk (putRecord t i v l) := by
  obtain ⟨hlen, hnodup⟩ := hl
  by_cases hany : l.any (PatchRec.targets t i) = true
  · rw [putRecord_of_any hany]
    refine ⟨(List.length_map _).trans_le hlen, ?_⟩
    have htargets : (l.map fun r => if r.targets t i then { r with value := v } else r).map (fun r => (r.table, r.index)) =
        l.map fun r => (r.table, r.index) := by
      rw [List.map_map]
      refine List.map_congr_left fun r _ => ?_
      dsimp only [Function.comp]
      split <;> rfl
    rwa [htargets]
  · rw [putRecord_of_not_any hany]
    refine ⟨List.length_append.trans_le (hroom.resolve_left hany), ?_⟩
    have hnew : (t, i) ∉ l.map fun r => (r.table, r.index) := by
      intro hmem
      obtain ⟨r, hr, he⟩ := List.mem_map.mp hmem
      exact hany ((any_targets_iff t i l).mpr ⟨r, hr, Prod.mk.inj he⟩)
    rw [List.map_append, List.map_singleton]
    exact hnodup.append (List.nodup_singleton _) (List.disjoint_singleton.mpr hnew)

theorem PatchListOk.filter {l : List PatchRec} (hl : PatchListOk l) (p : PatchRec → Bool) : PatchListOk (l.filter p) :=
  ⟨(List.length_filter_le _ _).trans hl.1, hl.2.sublist (List.filter_sublist.map _)⟩

/-- The refusal FULL and the room for a record exclude each other. -/
theorem hasRoom_iff {has : Bool} {n : Nat} : ¬(!has && decide (16 ≤ n)) = true ↔ has = true ∨ n < 16 := by
  cases has <;> simp

/-- PATCH_PUT puts a record only where the list has room for it (R170). -/
theorem handlePatchPut_patchesOk (p : List Byte) {s : State} (hs : PatchesOk s) : PatchesOk (handlePatchPut p s).state := by
  unfold handlePatchPut
  split
  · split
    · exact hs
    · dsimp only
      split_ifs with hrange hfull hbad
      · exact hs
      · exact hs
      · exact hs
      · exact hs.of_patches ((writePatch_only _ _ _ s).comp (withPatches_only _ _)
          (n := [.tables, .ramp, .tracker, .output, .patches, .link])) (hs.1.putRecord (hasRoom_iff.mp hfull) _)
  · exact hs

theorem handlePatchDrop_patchesOk (p : List Byte) {s : State} (hs : PatchesOk s) :
    PatchesOk (handlePatchDrop p s).state := by
  unfold handlePatchDrop
  split
  · split
    · exact hs
    · split
      · exact hs
      · exact hs.of_patches (withPatches_only s _) (hs.1.filter _)
  · exact hs

/-! ## The store (R164 to R168) -/

theorem NoNewStored.refl (st : Store) : NoNewStored st st := fun _ => id

/-- An operation that was outstanding goes, or one that carries no patch list takes the controller. -/
theorem NoNewStored.run (st : Store) {op : Option StoreOp} (hop : ∀ l, op ≠ some (.host (.saveDealer l))) :
    NoNewStored st { st with running := op } := fun l hl =>
  hl.imp id (.imp id fun hr => absurd hr (hop l))

/-- A reset, and a release after it, leave the DEALER region and no operation. -/
theorem noNewStored_of_idle {st st' : Store} (hdealer : st'.dealer = st.dealer) (hwaiting : st'.waiting = none)
    (hrunning : ∀ op, st'.running ≠ some (.host op)) : NoNewStored st st' := by
  rintro l (rfl | hw | hr)
  · exact .inl hdealer
  · cases hwaiting.symm.trans hw
  · exact absurd hr (hrunning _)

theorem noNewStored_interrupted (st : Store) : NoNewStored st st.interrupted := by
  unfold Store.interrupted
  dsimp only
  split <;> exact noNewStored_of_idle rfl rfl nofun

/-- The waiting operation, with its list, becomes the running one. -/
theorem beginHost_noNewList (s : State) : NoNewList s (beginHost s) := by
  refine .of_store (beginHost_only s) ?_
  unfold beginHost
  split
  · exact .refl _
  next op hop =>
    rintro l (hl | hw | hr)
    · exact .inl hl
    · cases hw
    · cases hr
      exact .inr (.inl hop)

theorem beginRead_noNewList (s : State) : NoNewList s (beginRead s) := by
  refine .of_store (beginRead_only s) ?_
  unfold beginRead
  split
  · exact .refl _
  · rw [(recordTransition_only _ _ _ _).store]
    exact .run s.store nofun

theorem grantNext_noNewList (s : State) : NoNewList s (grantNext s) :=
  .ite (fun _ => beginRead_noNewList s) fun _ => beginHost_noNewList s

theorem completeRead_noNewList (ok : Bool) (s : State) : NoNewList s (completeRead ok s) := by
  unfold completeRead
  split
  · exact .refl s
  next r _ =>
    have hfreed : NoNewList s (readFreed s) :=
      .of_store ((withRead_only s none).comp (withStore_only _ _) (n := [.read, .store])) (.run s.store nofun)
    exact (hfreed.trans (.of_only (readOutcome_only r ok _))).trans (grantNext_noNewList _)

/-- What a save captures is the working list as it stands, or no list (R164). -/
theorem acceptHost_noNewList {op : HostOp} {s : State} (hop : ∀ l, op = .saveDealer l → l = s.patches) :
    NoNewList s (acceptHost op s) := by
  unfold acceptHost
  split
  · rintro l (hl | hl | hw | hr)
    · exact .inl (.inl hl)
    · exact .inl (.inr (.inl hl))
    · exact .inl (.inr (.inr (.inl hw)))
    · exact .inl (.inl (hop l (by cases hr; rfl)))
  · rintro l (hl | hl | hw | hr)
    · exact .inl (.inl hl)
    · exact .inl (.inr (.inl hl))
    · exact .inl (.inl (hop l (by cases hw; rfl)))
    · exact .inl (.inr (.inr (.inr hr)))

theorem handleSave_noNewList (p : List Byte) (s : State) : NoNewList s (handleSave p s).state := by
  unfold handleSave
  split
  · split_ifs
    · exact .refl s
    · exact .refl s
    · exact .refl s
    · exact NoNewList.trans (.of_only (withIntegrity_only s _)) (acceptHost_noNewList (s := markAccepted s) nofun)
    · exact acceptHost_noNewList fun l hl => (HostOp.saveDealer.inj hl).symm
    · exact acceptHost_noNewList nofun
  · exact .refl s

theorem handleClose_noNewList (s : State) : NoNewList s (handleClose s).state := by
  unfold handleClose
  split_ifs
  · exact .refl s
  · exact .refl s
  · exact .refl s
  · exact acceptHost_noNewList nofun

/-- A SAVE DEALER that completes puts its list in the DEALER region (R166). -/
theorem noNewStored_hostFreed {op : HostOp} {st : Store} (hrun : st.running = some (.host op)) (ok : Bool) :
    NoNewStored st (hostFreed op ok st) := by
  rintro l (hl | hw | hr)
  · cases op with
    | saveDealer captured => exact .inr (.inr (hl ▸ hrun))
    | saveFactory f => exact .inl hl
    | saveStart sc => exact .inl hl
    | close => exact .inl hl
  · exact .inr (.inl (hostFreed_waiting op ok st ▸ hw))
  · cases hr

theorem hostDone_noNewList {op : HostOp} {s : State} (hrun : s.store.running = some (.host op)) (ok : Bool) :
    NoNewList s (hostDone op ok s) :=
  .of_store (hostDone_only op ok s) (hostDone_store op ok s ▸ noNewStored_hostFreed hrun ok)

theorem completeSave_noNewList (ok : Bool) (s : State) : NoNewList s (completeSave ok s) := by
  unfold completeSave
  split
  next image hrun =>
    have hdone := hostDone_noNewList hrun ok
    refine NoNewList.trans (.ite (fun _ => hdone.trans ?_) fun _ => hdone) (grantNext_noNewList _)
    exact .of_only (withIntegrity_only _ _)
  next l hrun => exact (hostDone_noNewList hrun ok).trans (grantNext_noNewList _)
  next sc hrun => exact (hostDone_noNewList hrun ok).trans (grantNext_noNewList _)
  next => exact .refl s

theorem completeClose_noNewList (ok : Bool) (s : State) : NoNewList s (completeClose ok s) := by
  unfold completeClose
  split
  next hrun => exact (hostDone_noNewList hrun ok).trans (grantNext_noNewList _)
  next => exact .refl s

/-! ## LOAD and reset (R168, R172, R173) -/

/-- The working list becomes that of the DEALER region, or empty. -/
theorem withLoadedPatches_noNewList (s : State) : NoNewList s (s.withPatches (loadedPatches s.store)) := by
  rintro l (hl | hl)
  · rw [State.withPatches_patches, loadedPatches] at hl
    split at hl
    · exact .inl (.inr (.inl hl))
    · exact .inr hl
  · exact .inl (.inr hl)

theorem placePatches_noNewList (s : State) : NoNewList s (placePatches s) := by
  have hlisted := withLoadedPatches_noNewList s
  have hstage (x : Tables × Nat) : NoNewList s (withStage (s.withPatches (loadedPatches s.store)) x) :=
    hlisted.trans (.of_only ((withTables_only _ _).comp (withStartup_only _ _) (n := [.tables, .startup])))
  by_cases hv : s.store.factoryState = .valid
  · rw [placePatches_valid hv]
    exact hstage _
  · rw [placePatches_invalid hv]
    exact hstage _

theorem completeLoad_noNewList (s : State) : NoNewList s (completeLoad s) := by
  by_cases hload : s.store.running = some .load
  · rw [completeLoad_eq hload]
    have hfreed : NoNewList s (loadFreed s) := .of_store (withStore_only s _) (.run s.store nofun)
    have htabled : NoNewList s
        (if s.store.factoryState = .valid then placeFactory s.store.factory (loadFreed s) else loadFreed s) :=
      .ite (fun _ => hfreed.trans (.of_only (placeFactory_only _ _))) fun _ => hfreed
    have hscene := (htabled.trans (placePatches_noNewList _)).trans (.of_only (placeScene_only _))
    exact (hscene.trans (.of_only (endLoading_only _))).trans (grantNext_noNewList _)
  · rw [completeLoad, if_neg hload]
    exact .refl s

theorem enterReset_noNewList (e : Hold) (s : State) : NoNewList s (enterReset e s) :=
  .of_store (enterReset_only e s) (noNewStored_interrupted s.store)

theorem release_noNewList (e : Hold) (s : State) : NoNewList s (release e s) := by
  have hstore : NoNewStored s.store (release e s).store := noNewStored_of_idle rfl rfl nofun
  rintro l (hl | hl)
  · exact .inr hl
  · exact .inl (.inr (hstore l hl))

/-! ## Every event -/

theorem effect_patchesOk (c : Instr) {s : State} (hs : PatchesOk s) : PatchesOk (effect c s) := by
  have request : ∀ {kind tag lengthOk ready} {handle : State → Handled},
      (∀ u, PatchesOk u → PatchesOk (handle u).state) → PatchesOk (taken kind tag lengthOk ready handle s) :=
    fun hh => taken_keeps (P := PatchesOk) (fun u _ h => h.of_frame (withLink_only u _)) hh hs _ _ _ _
  have hf := effect_only c s
  cases c
  all_goals dsimp only [touches] at hf
  case patchPut p => exact request fun _ => handlePatchPut_patchesOk p
  case patchDrop p => exact request fun _ => handlePatchDrop_patchesOk p
  case save p => exact request fun u h => h.keep (handleSave_noNewList p u)
  case closeFactory => exact request fun u h => h.keep (handleClose_noNewList u)
  case readSetBegin => exact hs.keep (.ite (fun _ => beginRead_noNewList s) fun _ => .refl s)
  case readSetComplete ok => exact hs.keep (completeRead_noNewList ok s)
  case hostOperationBegin => exact hs.keep (.ite (fun _ => beginHost_noNewList s) fun _ => .refl s)
  case saveComplete ok => exact hs.keep (completeSave_noNewList ok s)
  case closeComplete ok => exact hs.keep (completeClose_noNewList ok s)
  case loadComplete => exact hs.keep (completeLoad_noNewList s)
  all_goals exact hs.of_frame hf

theorem frameSent_noNewList (s : State) : NoNewList s (frameSent s) := by
  unfold frameSent
  split
  · exact .refl s
  · exact .ite (fun _ => enterReset_noNewList _ s) fun _ => .of_only ((withLink_only s _).comp (beginNext_only _)
      (n := [.link, .output]))

/-- Settles O12: PATCH_PUT and PATCH_DROP leave a list in order, and no other event puts a new one anywhere. -/
theorem patchListsStaySmall : Obligations.PatchListsStaySmall := by
  intro s t hs h
  refine step_keeps (P := PatchesOk) (fun u _ h => h.of_frame (withPending_only u _)) (fun _ _ h => h)
    (fun u _ h => h.of_frame (withLink_only u _)) (fun c s t hs h => ?_) hs h
  exact exec_keeps (P := PatchesOk) (fun c s _ h => (effect_patchesOk c h).of_frame (pump_only _))
    (fun s h => h.keep (frameSent_noNewList s)) (fun e s h => h.keep (enterReset_noNewList e s))
    (fun s h => (h.keep (enterReset_noNewList _ s)).of_frame (withHold_only _ _))
    (fun e s h => h.of_frame (withHold_only s _)) (fun e s h => h.keep (release_noNewList e s))
    (fun i f s h => h.keep (.of_store (withStore_only s _) (.refl s.store))) hs h

end Sys2Proof
end

section
/-! SUPPORT. SAVE, CLOSE_FACTORY, PATCH_PUT and PATCH_DROP: which handling a payload reaches, and the statements on them. -/

set_option Elab.async false

namespace Sys2Proof

open Sys2Proof.Machine

/-! ## A request's answer, once it is known -/

section
variable {s t : State} {kind tag : Byte} {ready : Bool} {handle : State → Handled}

theorem refused_of_request (h : Handles s) (ht : request kind tag true ready handle s = .next t) {x : Status}
    (hx : handle (frameTaken s) = Handled.refuse (frameTaken s) x) : Refused s t kind tag x := by
  obtain ⟨u, hu, hrefused⟩ := request_refused h hx
  exact Host.Outcome.next.inj (hu.symm.trans ht) ▸ hrefused

theorem done_of_request (h : Handles s) (ht : request kind tag true ready handle s = .next t) {u : State}
    (hu : handle (frameTaken s) = Handled.done u) (hlink : u.link = afterFrame s.link) :
    Only [.link, .draws] u t ∧ Replies s t kind tag .ok [] [] := by
  obtain ⟨v, hv, hanswer⟩ := request_done h (ns := []) hu (by simp [hlink, afterFrame]) (by decide)
  exact Host.Outcome.next.inj (hv.symm.trans ht) ▸ hanswer

end

/-! ## Acceptance of a host operation (R164) -/

theorem hostBusy_iff (st : Store) : hostBusy st = true ↔ st.waiting ≠ none ∨ ∃ op, st.running = some (.host op) := by
  rw [hostBusy, Bool.or_eq_true, Option.isSome_iff_ne_none]
  refine or_congr_right ?_
  split
  next op hop => simp [hop]
  next hno => exact ⟨nofun, fun ⟨op, hop⟩ => absurd hop (hno op)⟩

/-- The store with an accepted operation: running at once where the controller is free and no read waits, else waiting. -/
def heldStore (op : HostOp) (s : State) : Store :=
  if s.store.running = none ∧ (s.integrity.queue = [] ∨ s.read ≠ none) then { s.store with running := some (.host op) }
  else { s.store with waiting := some op }

theorem acceptHost_store (op : HostOp) (s : State) : (acceptHost op s).store = heldStore op s := by
  simp only [acceptHost, heldStore, readWaits_eq_false_iff]
  split <;> rfl

/-- A request that ends in the acceptance of an operation over the state `u`. -/
theorem accepted_of_request {s t u : State} {kind tag : Byte} {ready : Bool} {handle : State → Handled} {op : HostOp}
    (h : Handles s) (ht : request kind tag true ready handle s = .next t)
    (hu : handle (frameTaken s) = Handled.done (acceptHost op u)) (hlink : u.link = afterFrame s.link) :
    Only [.store, .link, .draws] u t ∧ Replies s t kind tag .ok [] [] ∧ t.store = heldStore op u := by
  have haccept := acceptHost_only op u
  obtain ⟨honly, hreply⟩ := done_of_request h ht hu (haccept.link.trans hlink)
  exact ⟨haccept.comp honly, hreply, honly.store.trans (acceptHost_store op u)⟩

section
variable {code : Byte} {s : State}

theorem handleSave_unknown (h : 2 < code.toNat) : handleSave [code] s = Handled.refuse s .badId := if_pos h

theorem handleSave_busy (h : code.toNat ≤ 2) (hbusy : hostBusy s.store = true) :
    handleSave [code] s = Handled.refuse s .busy := by
  rw [handleSave, if_neg (not_lt.mpr h), if_pos hbusy]

theorem handleSave_closed (hidle : ¬hostBusy s.store = true) (hclosed : s.store.closed = true) :
    handleSave [0] s = Handled.refuse s .isProtected := by
  rw [handleSave, if_neg (by decide), if_neg hidle, if_pos (by decide), if_pos hclosed]

theorem handleSave_factory (hidle : ¬hostBusy s.store = true) (hopen : s.store.closed = false) :
    handleSave [0] s = Handled.done (acceptHost (.saveFactory (captureFactory s)) (markAccepted s)) := by
  rw [handleSave, if_neg (by decide), if_neg hidle, if_pos (by decide), if_neg (by simp [hopen])]

theorem handleSave_dealer (hidle : ¬hostBusy s.store = true) :
    handleSave [1] s = Handled.done (acceptHost (.saveDealer s.patches) s) := by
  rw [handleSave, if_neg (by decide), if_neg hidle, if_neg (by decide), if_pos (by decide)]

theorem handleSave_start (hidle : ¬hostBusy s.store = true) :
    handleSave [2] s = Handled.done (acceptHost (.saveStart s.planner.live) s) := by
  rw [handleSave, if_neg (by decide), if_neg hidle, if_neg (by decide), if_neg (by decide)]

theorem handleClose_busy (hbusy : hostBusy s.store = true) : handleClose s = Handled.refuse s .busy := if_pos hbusy

theorem handleClose_closed (hidle : ¬hostBusy s.store = true) (hclosed : s.store.closed = true) :
    handleClose s = Handled.refuse s .isProtected := by
  rw [handleClose, if_neg hidle, if_pos hclosed]

theorem handleClose_noTuning (hidle : ¬hostBusy s.store = true) (hopen : s.store.closed = false)
    (hv : s.store.factoryState ≠ .valid) : handleClose s = Handled.refuse s .noTuning := by
  rw [handleClose, if_neg hidle, if_neg (by simp [hopen]), if_pos hv]

theorem handleClose_accepted (hidle : ¬hostBusy s.store = true) (hopen : s.store.closed = false)
    (hv : s.store.factoryState = .valid) : handleClose s = Handled.done (acceptHost .close s) := by
  rw [handleClose, if_neg hidle, if_neg (by simp [hopen]), if_neg (not_not.mpr hv)]

end

/-- Settles O43: the refusals in the order of R164, and then the capture of what stands. -/
theorem hostRequestsAccepted : Obligations.HostRequestsAccepted := by
  intro tag s h
  have hbusy := hostBusy_iff s.store
  have htaken := frameTaken_only s
  dsimp only
  rw [← hbusy]
  refine ⟨fun code => ?_, ?_⟩
  · obtain ⟨t, ht⟩ : ∃ t, request 0x09 tag true true (handleSave [code]) s = .next t := ⟨_, event_next h.1.1 _⟩
    refine ⟨t, ht, fun hcode => refused_of_request h ht (handleSave_unknown hcode),
      fun hcode hb => refused_of_request h ht (handleSave_busy hcode hb), ?_, ?_, ?_, ?_⟩
    · rintro rfl hidle hclosed
      exact refused_of_request h ht (handleSave_closed hidle hclosed)
    · rintro rfl hidle hopen
      obtain ⟨honly, hreply, hstore⟩ := accepted_of_request h ht (handleSave_factory hidle hopen) rfl
      exact ⟨(htaken.comp (withIntegrity_only _ _) (n := [.integrity, .link])).comp honly, hreply, hstore, honly.integrity⟩
    · rintro rfl hidle
      obtain ⟨honly, hreply, hstore⟩ := accepted_of_request h ht (handleSave_dealer hidle) rfl
      exact ⟨htaken.comp honly, hreply, hstore⟩
    · rintro rfl hidle
      obtain ⟨honly, hreply, hstore⟩ := accepted_of_request h ht (handleSave_start hidle) rfl
      exact ⟨htaken.comp honly, hreply, hstore⟩
  · obtain ⟨t, ht⟩ : ∃ t, request 0x0A tag true true handleClose s = .next t := ⟨_, event_next h.1.1 _⟩
    refine ⟨t, ht, fun hb => refused_of_request h ht (handleClose_busy hb),
      fun hidle hclosed => refused_of_request h ht (handleClose_closed hidle hclosed),
      fun hidle hopen hv => refused_of_request h ht (handleClose_noTuning hidle hopen hv), fun hidle hopen hv => ?_⟩
    obtain ⟨honly, hreply, hstore⟩ := accepted_of_request h ht (handleClose_accepted hidle hopen hv) rfl
    exact ⟨htaken.comp honly, hreply, hstore⟩

/-! ## The patch list (R170, R171) -/

theorem patchedTable_eq_set {s : State} (hs : TablesValid s.tables) {p : PatchTable} {i : Nat}
    (hi : i < p.table.entries) (v : Int) : patchedTable p i v s = (s.tables.nums p.table).set i v :=
  splice_singleton (hi.trans_eq (hs.1.1 _ (patchTable_mem p)).symm) v

theorem putRecord_eq (p : PatchTable) (i : Nat) (v : Int) (l : List PatchRec) :
    putRecord p i v l = if ∃ r ∈ l, r.table = p ∧ r.index = i then
      l.map fun r => if r.table = p ∧ r.index = i then { r with value := v } else r else l ++ [⟨p, i, v⟩] := by
  simp only [putRecord, any_targets_iff, targets_iff]

section
variable {code hi lo vhi vlo : Byte} {p : PatchTable} {s : State}

theorem handlePatchPut_unknown (h : PatchTable.ofCode code.toNat = none) :
    handlePatchPut [code, hi, lo, vhi, vlo] s = Handled.refuse s .badId := by
  simp only [handlePatchPut, h]

theorem handlePatchPut_outside (h : PatchTable.ofCode code.toNat = some p) (hout : p.table.entries ≤ u16 hi lo) :
    handlePatchPut [code, hi, lo, vhi, vlo] s = Handled.refuse s .badRange := by
  simp only [handlePatchPut, h]
  exact if_pos hout

theorem handlePatchPut_full (h : PatchTable.ofCode code.toNat = some p) (hin : ¬p.table.entries ≤ u16 hi lo)
    (hnew : ¬∃ r ∈ s.patches, r.table = p ∧ r.index = u16 hi lo) (hfull : 16 ≤ s.patches.length) :
    handlePatchPut [code, hi, lo, vhi, vlo] s = Handled.refuse s .full := by
  rw [← any_targets_iff, Bool.not_eq_true] at hnew
  simp only [handlePatchPut, h]
  rw [if_neg hin, if_pos (by simp [hnew, hfull])]

/-- A record that the list has or has room for reaches the check on the whole table that results (R170). -/
theorem handlePatchPut_room (hs : TablesValid s.tables) (h : PatchTable.ofCode code.toNat = some p)
    (hin : ¬p.table.entries ≤ u16 hi lo)
    (hroom : (∃ r ∈ s.patches, r.table = p ∧ r.index = u16 hi lo) ∨ s.patches.length < 16) :
    handlePatchPut [code, hi, lo, vhi, vlo] s =
      accepted (numsOk p.table ((s.tables.nums p.table).set (u16 hi lo) (s16 vhi vlo))) .tableInvalid s
        ((s.withTables (s.tables.putNums p.table ((s.tables.nums p.table).set (u16 hi lo) (s16 vhi vlo)))).withPatches
          (putRecord p (u16 hi lo) (s16 vhi vlo) s.patches)) := by
  have hinside := not_le.mp hin
  rw [← any_targets_iff] at hroom
  simp only [handlePatchPut, h]
  rw [if_neg hin, if_neg (hasRoom_iff.mpr hroom), patchOk, decide_eq_true hinside, writePatch_eq,
    patchedTable_eq_set hs hinside]
  cases numsOk p.table ((s.tables.nums p.table).set (u16 hi lo) (s16 vhi vlo)) <;> rfl

theorem handlePatchDrop_unknown (h : PatchTable.ofCode code.toNat = none) :
    handlePatchDrop [code, hi, lo] s = Handled.refuse s .badId := by
  simp only [handlePatchDrop, h]

theorem handlePatchDrop_outside (h : PatchTable.ofCode code.toNat = some p) (hout : p.table.entries ≤ u16 hi lo) :
    handlePatchDrop [code, hi, lo] s = Handled.refuse s .badRange := by
  simp only [handlePatchDrop, h]
  exact if_pos hout

theorem handlePatchDrop_inside (h : PatchTable.ofCode code.toNat = some p) (hin : ¬p.table.entries ≤ u16 hi lo) :
    handlePatchDrop [code, hi, lo] s =
      Handled.done (s.withPatches (s.patches.filter fun r => ¬(r.table = p ∧ r.index = u16 hi lo))) := by
  have hkeeps : (fun r : PatchRec => !r.targets p (u16 hi lo)) = fun r => decide ¬(r.table = p ∧ r.index = u16 hi lo) := by
    funext r
    rw [Bool.eq_iff_iff, Bool.not_eq_true', decide_eq_true_iff, ← targets_iff, Bool.not_eq_true]
  simp only [handlePatchDrop, h]
  rw [if_neg hin, hkeeps]

end

/-- Settles O50: the refusals in the order of R170 and R171, then the record put or dropped. -/
theorem patchesPutAndDropped : Obligations.PatchesPutAndDropped := by
  intro tag code hi lo s h htables
  have htaken := frameTaken_only s
  dsimp only
  refine ⟨fun vhi vlo => ?_, ?_⟩
  · obtain ⟨t, ht⟩ : ∃ t, request 0x0B tag true true (handlePatchPut [code, hi, lo, vhi, vlo]) s = .next t :=
      ⟨_, event_next h.1.1 _⟩
    refine ⟨t, ht, ?_⟩
    cases hcode : PatchTable.ofCode code.toNat with
    | none => exact refused_of_request h ht (handlePatchPut_unknown hcode)
    | some p =>
      dsimp only
      split
      next hrange => exact refused_of_request h ht (handlePatchPut_outside hcode hrange)
      next hrange =>
        split
        next hfull => exact refused_of_request h ht (handlePatchPut_full hcode hrange hfull.1 hfull.2)
        next hfull =>
          have hroom := or_iff_not_imp_left.mpr fun hnew => not_le.mp fun hlen => hfull ⟨hnew, hlen⟩
          have hhandle := handlePatchPut_room (vhi := vhi) (vlo := vlo) (s := frameTaken s) htables.1 hcode hrange hroom
          have hok := numsOk_iff p.table (l := (s.tables.nums p.table).set (u16 hi lo) (s16 vhi vlo))
            (List.length_set.trans (htables.1.1.1 _ (patchTable_mem p)))
          refine ⟨fun hbad => refused_of_request h ht (hhandle.trans ?_), fun hmeets => ?_⟩
          · exact accepted_of_false (Bool.eq_false_iff.mpr fun hgood => hbad (hok.mp hgood)) _ _ _
          · obtain ⟨honly, hreply⟩ := done_of_request h ht (hhandle.trans (accepted_of_true (hok.mpr hmeets) _ _ _)) rfl
            refine ⟨?_, honly.tables, honly.patches.trans (putRecord_eq _ _ _ _), hreply⟩
            exact ((htaken.comp (withTables_only _ _) (n := [.tables, .link])).comp (withPatches_only _ _)
              (n := [.tables, .patches, .link])).comp honly
  · obtain ⟨t, ht⟩ : ∃ t, request 0x0C tag true true (handlePatchDrop [code, hi, lo]) s = .next t :=
      ⟨_, event_next h.1.1 _⟩
    refine ⟨t, ht, ?_⟩
    cases hcode : PatchTable.ofCode code.toNat with
    | none => exact refused_of_request h ht (handlePatchDrop_unknown hcode)
    | some p =>
      dsimp only
      split
      next hrange => exact refused_of_request h ht (handlePatchDrop_outside hcode hrange)
      next hrange =>
        obtain ⟨honly, hreply⟩ := done_of_request h ht (handlePatchDrop_inside hcode hrange) rfl
        exact ⟨(htaken.comp (withPatches_only _ _) (n := [.patches, .link])).comp honly, honly.patches, hreply⟩

end Sys2Proof
end

section
/-! SUPPORT. What waits to be sent: which events append a reply or post a notice, and that the link's order is kept. -/

set_option Elab.async false

namespace Sys2Proof

open Sys2Proof.Machine

/-! ## What the owners and LOAD post (R182) -/

theorem PostsJust.posts {ns : List Notice} {s t : State} (h : PostsJust ns s t) (hns : ns.Nodup) : Posts s t := by
  refine ⟨_, h, fun hs => List.nodup_append.mpr ⟨hs, hns.filter _, fun a ha b hb hab => ?_⟩⟩
  have hnew : b ∉ s.link.notices := by simpa using (List.mem_filter.mp hb).2
  exact hnew (hab ▸ ha)

theorem Posts.foldl {α : Type} {f : State → α → State} (h : ∀ s a, Posts s (f s a)) :
    ∀ (l : List α) (s : State), Posts s (l.foldl f s)
  | [], s => .refl s
  | a :: l, s => (h s a).trans (Posts.foldl h l (f s a))

theorem validReport_posts (v : Nat) (s : State) : Posts s (validReport v s) :=
  (validReport_postsJust v s).posts (by split <;> decide)

theorem placeFactory_posts (f : FactoryImage) (s : State) : Posts s (placeFactory f s) := by
  have nums : ∀ (l : List TableId) (s : State), Posts s (l.foldl (placeNums f) s) :=
    Posts.foldl fun s id => acceptNums_posts id _ _ _ s
  refine Posts.trans ?_ (writeSets_posts _ _ _ _)
  refine Posts.trans ?_ (nums _ _)
  refine Posts.trans ?_ (acceptRoute_posts _ _)
  refine Posts.trans ?_ (acceptClasses_posts _ _)
  exact (nums _ s).trans (acceptCurve_posts _ _)

theorem applyPatch_posts (s : State) (r : PatchRec) : Posts s (applyPatch s r) :=
  .ite (fun _ => acceptNums_posts _ _ _ _ s) fun _ => .of_same rfl

theorem placePatches_posts (s : State) : Posts s (placePatches s) := by
  unfold placePatches
  dsimp only
  split
  · exact (Posts.foldl applyPatch_posts _ _).after rfl
  · exact .of_same rfl

theorem completeLoad_posts (s : State) : Posts s (completeLoad s) := by
  refine .ite (fun _ => ?_) fun _ => .refl s
  refine Posts.trans ?_ (grantNext_posts _)
  refine Posts.trans ?_ ((endLoading_postsJust _).posts (List.nodup_singleton _))
  refine Posts.then ?_ (placeScene_only _).link
  refine Posts.trans ?_ (placePatches_posts _)
  exact .ite (fun _ => (placeFactory_posts _ _).after rfl) fun _ => .of_same rfl

/-! ## The two queues before the transmitter begins (R179, R182) -/

/-- At most four replies wait, and each notice kind at most once. -/
def QueuesOk (l : Link) : Prop := l.replies.length ≤ 4 ∧ l.notices.Nodup

theorem LinkOk.queues {l : Link} (h : LinkOk l) : QueuesOk l := ⟨h.1, h.2.1⟩

/-- No reply is appended, and no notice kind comes to wait twice. -/
def KeepsQueues (s t : State) : Prop :=
  t.link.replies = s.link.replies ∧ (s.link.notices.Nodup → t.link.notices.Nodup)

theorem KeepsQueues.of_link {s t : State} (h : t.link = s.link) : KeepsQueues s t := by simp [KeepsQueues, h]

theorem Posts.keepsQueues {s t : State} (h : Posts s t) : KeepsQueues s t := by
  obtain ⟨ns, hlink, hnodup⟩ := h
  rw [KeepsQueues, hlink]
  exact ⟨rfl, hnodup⟩

theorem KeepsQueues.queuesOk {s t : State} (h : KeepsQueues s t) (hs : QueuesOk s.link) : QueuesOk t.link :=
  ⟨(congrArg List.length h.1).trans_le hs.1, h.2 hs.2⟩

theorem handleSpeed_keepsQueues (p : List Byte) (s : State) : KeepsQueues s (handleSpeed p s).state := by
  unfold handleSpeed
  split
  · exact .of_link rfl
  · split
    · split
      · exact (validReport_posts _ s).keepsQueues
      · exact ⟨rfl, id⟩
    · exact .of_link rfl

theorem handleAnnStart_keepsQueues (p : List Byte) (s : State) : KeepsQueues s (handleAnnStart p s).state := by
  unfold handleAnnStart
  split
  · split
    · exact .of_link rfl
    · split
      · exact .of_link rfl
      · exact (startClass_posts _ _ s).keepsQueues
  · exact .of_link rfl

theorem handleAnnEnd_keepsQueues (p : List Byte) (s : State) : KeepsQueues s (handleAnnEnd p s).state := by
  unfold handleAnnEnd
  split
  · split
    · exact .of_link rfl
    · exact (endClass_posts _ s).keepsQueues
  · exact .of_link rfl

theorem handleTableWrite_keepsQueues (p : List Byte) (s : State) : KeepsQueues s (handleTableWrite p s).state := by
  unfold handleTableWrite
  split
  · split
    · exact .of_link rfl
    · split
      · exact .of_link rfl
      · split
        · exact .of_link rfl
        · exact (writeEntries_posts _ _ _ s).keepsQueues
  · exact .of_link rfl

theorem handlePatchPut_keepsQueues (p : List Byte) (s : State) : KeepsQueues s (handlePatchPut p s).state := by
  unfold handlePatchPut
  split
  · split
    · exact .of_link rfl
    · dsimp only
      split
      · exact .of_link rfl
      · split
        · exact .of_link rfl
        · split
          · exact .of_link rfl
          · exact ((acceptNums_posts _ _ _ _ s).then rfl).keepsQueues
  · exact .of_link rfl

theorem handleCounters_keepsQueues (p : List Byte) (s : State) : KeepsQueues s (handleCounters p s).state := by
  unfold handleCounters
  split
  · dsimp only
    split <;> exact ⟨rfl, id⟩
  · exact .of_link rfl

/-- A good frame finds room for its reply, or is discarded (R179). -/
theorem dispatch_queuesOk {kind tag : Byte} {handle : State → Handled} {s : State}
    (hh : KeepsQueues s (handle s).state) (hs : QueuesOk s.link) : QueuesOk (dispatch kind tag handle s).link := by
  unfold dispatch
  split
  · exact hs
  next hroom =>
    refine ⟨?_, hh.2 hs.2⟩
    rw [appendReply, State.withLink_link, hh.1, List.length_append]
    exact not_le.mp hroom

theorem taken_queuesOk {handle : State → Handled} {s : State} (hs : QueuesOk s.link) (kind tag : Byte)
    (lengthOk ready : Bool) (hh : ∀ u, KeepsQueues u (handle u).state) :
    QueuesOk (taken kind tag lengthOk ready handle s).link := by
  refine dispatch_queuesOk (s := frameTaken s) ?_ hs
  unfold commonChecks
  split
  · exact .of_link rfl
  · split
    · exact .of_link rfl
    · exact hh _

theorem effect_queuesOk (c : Instr) {s : State} (hs : QueuesOk s.link) : QueuesOk (effect c s).link := by
  have same : ∀ {t : State}, t.link = s.link → QueuesOk t.link := fun h => (KeepsQueues.of_link h).queuesOk hs
  have posts : ∀ {t : State}, Posts s t → QueuesOk t.link := fun h => h.keepsQueues.queuesOk hs
  have hf := effect_only c s
  cases c
  all_goals dsimp only [touches] at hf
  case set p => exact taken_queuesOk hs _ _ _ _ fun u => .of_link (handleSet_only p u).link
  case commit => exact taken_queuesOk hs _ _ _ _ fun u => .of_link (handleCommit_only u).link
  case query p => exact taken_queuesOk hs _ _ _ _ fun u => .of_link (congrArg _ (handleQuery_only p u))
  case speed p => exact taken_queuesOk hs _ _ _ _ fun u => handleSpeed_keepsQueues p u
  case annStart p => exact taken_queuesOk hs _ _ _ _ fun u => handleAnnStart_keepsQueues p u
  case annEnd p => exact taken_queuesOk hs _ _ _ _ fun u => handleAnnEnd_keepsQueues p u
  case tableWrite p => exact taken_queuesOk hs _ _ _ _ fun u => handleTableWrite_keepsQueues p u
  case tableRead p => exact taken_queuesOk hs _ _ _ _ fun u => .of_link (congrArg _ (handleTableRead_only p u))
  case save p => exact taken_queuesOk hs _ _ _ _ fun u => .of_link (handleSave_only p u).link
  case closeFactory => exact taken_queuesOk hs _ _ _ _ fun u => .of_link (handleClose_only u).link
  case patchPut p => exact taken_queuesOk hs _ _ _ _ fun u => handlePatchPut_keepsQueues p u
  case patchDrop p => exact taken_queuesOk hs _ _ _ _ fun u => .of_link (handlePatchDrop_only p u).link
  case counters p => exact taken_queuesOk hs _ _ _ _ fun u => handleCounters_keepsQueues p u
  case clearHistory => exact taken_queuesOk hs _ _ _ _ fun u => .of_link (handleClearHistory_only u).link
  case restart => exact taken_queuesOk hs _ _ _ _ fun u => ⟨rfl, id⟩
  case badKind =>
    dsimp only [effect]
    split
    · exact hs
    · exact dispatch_queuesOk (s := frameTaken s) (.of_link rfl) hs
  case crcError => dsimp only [effect]; split <;> exact hs
  case frameLengthInvalid => dsimp only [effect]; split <;> exact hs
  case linkGap => exact hs
  case drainCompletion k => exact posts (takeDrain_posts k s)
  case outputStageStep => exact posts (outputBoundary_posts s)
  case eqBoundary => exact posts (eqBoundary_posts s)
  case scannerCheck => exact posts (scan_posts s)
  case readSetBegin => exact posts (.ite (fun _ => beginRead_posts s) fun _ => .refl s)
  case readSetComplete ok => exact posts (completeRead_posts ok s)
  case arbiterBoundary => exact posts ((expire_posts _).after rfl)
  case expiry => exact posts (expire_posts s)
  case speedTrackerBoundary => exact posts (trackerBoundary_posts s)
  case staleTimeout => exact posts (goStale_posts s)
  case supplyReading => exact posts (takeReading_posts _ s)
  case runComplete => exact posts (.ite (fun _ => takeReading_posts _ s) fun _ => .refl s)
  case settleComplete => exact posts (.ite (fun _ => takeReading_posts _ s) fun _ => .refl s)
  case loadComplete => exact posts (completeLoad_posts s)
  case saveComplete ok => exact posts (completeSave_posts ok s)
  case closeComplete ok => exact posts (completeClose_posts ok s)
  all_goals exact same hf.link

/-! ## The transmitter (R181) -/

/-- Whatever waits, the transmitter begins the first of it, or nothing waits. -/
theorem beginNext_linkOk {s : State} (hs : QueuesOk s.link) : LinkOk (beginNext s).link := by
  obtain ⟨hreplies, hnotices⟩ := hs
  cases hr : s.link.replies with
  | cons r rest =>
    rw [hr] at hreplies
    rw [beginNext_reply hr]
    exact ⟨(Nat.le_succ _).trans hreplies, hnotices, nofun⟩
  | nil =>
    cases hn : s.link.notices with
    | cons n rest =>
      rw [hn] at hnotices
      rw [(beginNext_notice hr hn).2]
      exact ⟨hreplies, hnotices.of_cons, nofun⟩
    | nil =>
      rw [beginNext_idle hr hn]
      exact ⟨hreplies, hnotices, fun _ => ⟨hr, hn⟩⟩

theorem frameSent_linkOk {s : State} (hs : LinkOk s.link) : LinkOk (frameSent s).link := by
  unfold frameSent
  split
  · exact hs
  · split
    · exact reset_linkOk
    · exact beginNext_linkOk hs.queues

/-- Settles O4: an event leaves the queues in order, and the sending that follows leaves nothing at an idle transmitter. -/
theorem linkOrderKept : Obligations.LinkOrderKept := by
  intro s t hs h
  refine step_keeps (P := fun s => LinkOk s.link) (fun _ _ h => h) (fun _ _ h => h) (fun _ _ h => h)
    (fun c s t hs h => ?_) hs h
  refine exec_keeps (P := fun s => LinkOk s.link) (fun c s _ h => ?_) (fun _ h => frameSent_linkOk h)
    (fun _ _ _ => reset_linkOk) (fun _ _ => reset_linkOk) (fun _ _ h => h) (fun _ _ _ => reset_linkOk)
    (fun _ _ _ h => h) hs h
  obtain ⟨hreplies, hnotices⟩ := effect_queuesOk c h.queues
  exact pump_linkOk hreplies hnotices

end Sys2Proof
end

section
/-! SUPPORT. The CRC bit by bit, the receive assembler byte by byte, and the statement on line errors. -/

set_option Elab.async false

namespace Sys2Proof

open Sys2Proof.Machine

/-! ## The CRC (R178) -/

/-- One message bit into the CRC register. -/
def crcBit (r : BitVec 16) (bit : Bool) : BitVec 16 :=
  if r.getLsbD 15 = bit then r <<< 1 else (r <<< 1) ^^^ 0x1021

/-- The shift is linear: what is added to the register before it is a message bit and a shifted rest. -/
theorem crcShift_xor (c w : BitVec 16) : crcShift (c ^^^ w) = crcBit c (w.getLsbD 15) ^^^ (w <<< 1) := by
  have hshift : (c ^^^ w) <<< 1 = c <<< 1 ^^^ w <<< 1 := BitVec.shiftLeft_xor_distrib c w 1
  unfold crcShift crcBit
  rw [BitVec.getLsbD_xor, hshift]
  cases c.getLsbD 15 <;> cases w.getLsbD 15
  · rfl
  · change c <<< 1 ^^^ w <<< 1 ^^^ 0x1021 = c <<< 1 ^^^ 0x1021 ^^^ w <<< 1
    ac_rfl
  · change c <<< 1 ^^^ w <<< 1 ^^^ 0x1021 = c <<< 1 ^^^ 0x1021 ^^^ w <<< 1
    ac_rfl
  · rfl

/-- The first `n` bits of a word, most significant first. -/
def highBits (w : BitVec 16) (n : Nat) : List Bool := (List.range n).map fun i => w.getLsbD (15 - i)

theorem crcShift_iterate (c w : BitVec 16) : ∀ n ≤ 16, crcShift^[n] (c ^^^ w) = (highBits w n).foldl crcBit c ^^^ (w <<< n)
  | 0, _ => by simp [highBits]
  | n + 1, hn => by
    have hbit : (w <<< n).getLsbD 15 = w.getLsbD (15 - n) := by
      rw [BitVec.getLsbD_shiftLeft, decide_eq_false (by omega : ¬15 < n)]
      rfl
    rw [Function.iterate_succ_apply', crcShift_iterate c w n (by omega), crcShift_xor, hbit, ← BitVec.shiftLeft_add]
    simp [highBits, List.range_succ]

/-- A byte enters the register as its eight bits. -/
theorem crcByte_eq_bits (c : BitVec 16) (b : Byte) :
    crcByte c b = ((List.range 8).map fun i => b.getLsbD (7 - i)).foldl crcBit c := by
  have hbits : highBits (b.setWidth 16 <<< 8) 8 = (List.range 8).map fun i => b.getLsbD (7 - i) := by
    refine List.map_congr_left fun i hi => ?_
    have hi : i < 8 := List.mem_range.mp hi
    rw [BitVec.getLsbD_shiftLeft, BitVec.getLsbD_setWidth, decide_eq_true (by omega : 15 - i < 16),
      decide_eq_false (by omega : ¬15 - i < 8), decide_eq_true (by omega : 15 - i - 8 < 16), Bool.true_and, Bool.true_and]
    exact congrArg b.getLsbD (by omega)
  have hout : b.setWidth 16 <<< 8 <<< 8 = 0#16 := by
    rw [← BitVec.shiftLeft_add, BitVec.shiftLeft_eq_zero (by decide)]
  have hshifts := crcShift_iterate c (b.setWidth 16 <<< 8) 8 (by decide)
  rw [hbits, hout, BitVec.xor_zero] at hshifts
  exact hshifts

theorem crc16_eq_crcOf (bytes : List Byte) : crc16 bytes = crcOf bytes := by
  unfold crc16 crcOf
  rw [List.foldl_flatMap]
  congr 1
  funext c b
  exact crcByte_eq_bits c b

theorem bytes_append_crc (crc : BitVec 16) : crc.extractLsb' 8 8 ++ crc.extractLsb' 0 8 = crc :=
  (BitVec.extractLsb'_append_extractLsb'_eq_extractLsb' (by decide)).trans BitVec.extractLsb'_eq_self

theorem byteOf_natCast (n : Nat) : byteOf n = BitVec.ofNat 8 n := BitVec.ofInt_natCast 8 n

theorem frame_bytes_eq (f : Frame) :
    let body := BitVec.ofNat 8 (f.payload.length + 2) :: f.kind :: f.tag :: f.payload
    f.bytes = 0xA5 :: body ++ [(crcOf body).extractLsb' 8 8, (crcOf body).extractLsb' 0 8] := by
  have hlength : byteOf (2 + f.payload.length) = BitVec.ofNat 8 (f.payload.length + 2) := by
    rw [← byteOf_natCast, Nat.cast_add, add_comm]
    rfl
  rw [Frame.bytes, hlength, crc16_eq_crcOf]

/-! ## Events that send nothing -/

/-- Where the link is in order, an idle transmitter finds nothing to begin. -/
theorem pump_of_linkOk {u : State} (h : LinkOk u.link) : pump u = u :=
  pump_quiet (s := State.reset.withLink u.link) ⟨rfl, h⟩ rfl

/-- A command that leaves the link in order answers its own effect. -/
theorem exec_of_effect {c : Instr} {s u : State} (ho : outside c = false) (hheld : s.held = false) (hu : effect c s = u)
    (hlink : LinkOk u.link) : exec c s = .next u := by
  rw [exec_event ho, event_next hheld, hu, pump_of_linkOk hlink]

section
variable {s : State} (ha : Awake s)
include ha

/-- A frame that is spoilt is counted, and the assembler hunts (R177). -/
theorem exec_crcError {body : List Byte} {crc : BitVec 16} (h : crc ≠ crcOf body) :
    exec (.crcError body crc) s = .next (s.withLink { s.link with
      assembler := .hunting, crcErrors := min 65535 (s.link.crcErrors + 1) }) :=
  exec_of_effect rfl ha.1 (if_neg (crc16_eq_crcOf body ▸ h)) ha.2

theorem exec_frameLengthInvalid {length : Byte} (h : length.toNat < 2 ∨ 250 < length.toNat) :
    exec (.frameLengthInvalid length) s = .next (s.withLink { s.link with
      assembler := .hunting, crcErrors := min 65535 (s.link.crcErrors + 1) }) :=
  exec_of_effect rfl ha.1 (if_pos h) ha.2

theorem exec_linkGap (b : Byte) :
    exec (.linkGap b) s = .next (s.withLink { s.link with
      gaps := min 65535 (s.link.gaps + 1), assembler := if b = 0xA5 then .started else .hunting }) :=
  exec_of_effect rfl ha.1 rfl ha.2

end

/-! ## One byte (R177) -/

section
variable {s : State} (hheld : s.held = false)
include hheld

theorem receiveByte_late {r : RxByte} (h : r.late = true ∧ s.link.assembler ≠ .hunting) :
    receiveByte r s = exec (.linkGap r.value) s := by
  rw [receiveByte, hheld, if_neg Bool.false_ne_true, if_pos h]

/-- A byte on time, or outside a frame, that completes no command moves the assembler. -/
theorem receiveByte_moves {r : RxByte} {a : Assembler} (h : ¬(r.late = true ∧ s.link.assembler ≠ .hunting))
    (ht : s.link.assembler.take r.value = (a, none)) :
    receiveByte r s = .next (s.withLink { s.link with assembler := a }) := by
  rw [receiveByte, hheld, if_neg Bool.false_ne_true, if_neg h]
  dsimp only
  rw [ht]

theorem receiveByte_completes {r : RxByte} {a : Assembler} {c : Instr}
    (h : ¬(r.late = true ∧ s.link.assembler ≠ .hunting)) (ht : s.link.assembler.take r.value = (a, some c)) :
    receiveByte r s = exec c (s.withLink { s.link with assembler := a }) := by
  rw [receiveByte, hheld, if_neg Bool.false_ne_true, if_neg h]
  dsimp only
  rw [ht]

end

theorem take_started (b : Byte) :
    Assembler.started.take b =
      if b.toNat < 2 ∨ 250 < b.toNat then (.hunting, some (.frameLengthInvalid b)) else (.collecting b [], none) := rfl

theorem take_collecting {length : Byte} {got : List Byte} (b : Byte) (h : got.length < length.toNat + 1) :
    (Assembler.collecting length got).take b = (.collecting length (got ++ [b]), none) :=
  if_pos (by rw [List.length_append, List.length_singleton]; omega)

/-- The second CRC byte completes a frame. -/
theorem take_last {length hi : Byte} {body : List Byte} (lo : Byte) (h : body.length = length.toNat) :
    (Assembler.collecting length (body ++ [hi])).take lo = (.hunting, some (checkFrame length body hi lo)) := by
  have hfull : ¬(body ++ [hi] ++ [lo]).length < length.toNat + 2 := by simp [h]
  simp only [Assembler.take, if_neg hfull]
  simp [← h]

theorem step_received {b : RxByte} {rest : List RxByte} {s : State} (hp : s.pending = []) (hr : s.received = b :: rest) :
    step s = receiveByte b (s.withReceived rest) := by
  simp only [step, hp, hr]

theorem checkFrame_of_ne {length kind tag : Byte} {payload : List Byte} {crc : BitVec 16}
    (h : crc ≠ crcOf (length :: kind :: tag :: payload)) :
    checkFrame length (kind :: tag :: payload) (crc.extractLsb' 8 8) (crc.extractLsb' 0 8) =
      .crcError (length :: kind :: tag :: payload) crc := by
  rw [checkFrame, bytes_append_crc, crc16_eq_crcOf, if_neg h]

theorem checkFrame_of_eq {length kind tag : Byte} {payload : List Byte} {crc : BitVec 16}
    (h : crc = crcOf (length :: kind :: tag :: payload)) :
    checkFrame length (kind :: tag :: payload) (crc.extractLsb' 8 8) (crc.extractLsb' 0 8) =
      commandOfFrame kind tag payload := by
  rw [checkFrame, bytes_append_crc, crc16_eq_crcOf, if_pos h]

theorem commandOfFrame_request (tag : Byte) (payload : List Byte) :
    ∀ r ∈ requestKinds, commandOfFrame r.1 tag payload = r.2 tag payload := by
  simp only [requestKinds, List.forall_mem_cons]
  exact ⟨rfl, rfl, rfl, rfl, rfl, rfl, rfl, rfl, rfl, rfl, rfl, rfl, rfl, rfl, rfl, nofun⟩

theorem commandOfFrame_bad {kind : Byte} (h : kind = 0 ∨ 15 < kind.toNat) (tag : Byte) (payload : List Byte) :
    commandOfFrame kind tag payload = .badKind kind tag payload := by
  have hno : ∀ n, 1 ≤ n → n ≤ 15 → kind.toNat ≠ n := by
    intro n hlow hhigh hn
    obtain rfl | h := h
    · exact absurd (hn ▸ hlow) (by decide)
    · omega
  unfold commandOfFrame
  split
  case h_16 => rfl
  all_goals exact absurd ‹kind.toNat = _› (hno _ (by decide) (by decide))

/-! ## The bytes of a frame -/

/-- The state in which the assembler has moved to `a` and the bytes `l` wait. -/
def receiving (a : Assembler) (l : List RxByte) (s : State) : State :=
  (s.withReceived l).withLink { s.link with assembler := a }

/-- Bytes that arrive in time. -/
def onTime (l : List Byte) : List RxByte := l.map fun v => ⟨v, false⟩

section
variable {s : State} (ha : Awake s) (hp : s.pending = [])
include ha hp

theorem step_onTime {a b : Assembler} {v : Byte} {l : List RxByte} (h : a.take v = (b, none)) :
    step (receiving a (⟨v, false⟩ :: l) s) = .next (receiving b l s) := by
  rw [step_received (s := receiving a (⟨v, false⟩ :: l) s) hp rfl]
  exact receiveByte_moves (s := receiving a l s) ha.1 (fun hlate => Bool.false_ne_true hlate.1) h

/-- The last byte of a frame runs what the frame is. -/
theorem step_completes {a : Assembler} {v : Byte} {c : Instr} {l : List RxByte} (h : a.take v = (.hunting, some c)) :
    step (receiving a (⟨v, false⟩ :: l) s) = exec c (receiving .hunting l s) := by
  rw [step_received (s := receiving a (⟨v, false⟩ :: l) s) hp rfl]
  exact receiveByte_completes (s := receiving a l s) ha.1 (fun hlate => Bool.false_ne_true hlate.1) h

/-- Bytes inside a frame are collected one by one. -/
theorem runs_collecting {length : Byte} {rest : List RxByte} :
    ∀ (l got : List Byte), got.length + l.length ≤ length.toNat + 1 →
      Runs l.length (receiving (.collecting length got) (onTime l ++ rest) s)
        (receiving (.collecting length (got ++ l)) rest s)
  | [], got, _ => by rw [List.append_nil]; rfl
  | v :: l, got, h => by
    rw [List.length_cons] at h
    have hroom : (got ++ [v]).length + l.length ≤ length.toNat + 1 := by
      rw [List.length_append, List.length_singleton]
      omega
    have hrest := runs_collecting (rest := rest) l (got ++ [v]) hroom
    rw [List.append_assoc] at hrest
    have htake := take_collecting v (length := length) (got := got) (by omega)
    exact ⟨_, step_onTime ha hp htake, hrest⟩

/-- All bytes of a frame but the last, from a hunting assembler. -/
theorem runs_frame {length : Byte} {l : List Byte} {rest : List RxByte} (h : 2 ≤ length.toNat ∧ length.toNat ≤ 250)
    (hl : l.length ≤ length.toNat + 1) :
    Runs (l.length + 2) (receiving .hunting (onTime (0xA5 :: length :: l) ++ rest) s)
      (receiving (.collecting length l) rest s) := by
  have hstart : Assembler.hunting.take 0xA5 = (.started, none) := rfl
  have hlength : Assembler.started.take length = (.collecting length [], none) := by
    rw [take_started, if_neg (by omega)]
  exact ⟨_, step_onTime ha hp hstart, _, step_onTime ha hp hlength, runs_collecting ha hp l [] (by simpa using hl)⟩

end

/-- Of an assembler that hunts already, `receiving` changes the waiting bytes alone. -/
theorem receiving_hunting {s : State} (h : s.link.assembler = .hunting) (l : List RxByte) :
    receiving .hunting l s = s.withReceived l := by
  rw [receiving, ← h]
  rfl

/-- The bytes of a frame on time, from a hunting assembler: at the last of them the frame is checked. -/
theorem runs_checkFrame {length kind tag hi lo : Byte} {payload : List Byte} {rest : List RxByte} {s : State}
    (ha : Awake s) (hp : s.pending = []) (hunting : s.link.assembler = .hunting) (hlength : length.toNat = payload.length + 2)
    (hshort : payload.length ≤ 248)
    (hr : s.received = onTime (0xA5 :: length :: kind :: tag :: (payload ++ [hi])) ++ ⟨lo, false⟩ :: rest) :
    ∃ t, Runs (payload.length + 5) s t ∧
      step t = exec (checkFrame length (kind :: tag :: payload) hi lo) (s.withReceived rest) := by
  have hruns := runs_frame ha hp (length := length) (l := kind :: tag :: (payload ++ [hi]))
    (rest := ⟨lo, false⟩ :: rest) (by omega) (by simp [hlength])
  have hlast := step_completes ha hp (l := rest)
    (take_last (body := kind :: tag :: payload) (hi := hi) lo hlength.symm)
  rw [← hr, receiving_hunting hunting] at hruns
  rw [receiving_hunting hunting] at hlast
  refine ⟨_, ?_, hlast⟩
  rw [List.length_cons, List.length_cons, List.length_append, List.length_singleton] at hruns
  exact hruns

/-! ## The statement -/

/-- Settles O53: the commands for line errors, one byte by the state of the assembler, the bytes of a frame one by one. -/
theorem lineErrorsAreCounted : Obligations.LineErrorsAreCounted := by
  refine ⟨fun s ha => ?_, fun b rest s ha hp hr => ?_, fun kind tag payload crc rest s ha hp hunting hshort => ?_,
    fun f _ => frame_bytes_eq f⟩
  · exact ⟨fun _ _ => exec_crcError ha, fun _ => exec_frameLengthInvalid ha, exec_linkGap ha⟩
  · intro u moved
    have hu : Awake u := ha
    rw [step_received hp hr]
    split
    next hlate => exact (receiveByte_late (s := u) ha.1 hlate).trans (exec_linkGap hu _)
    next hlate =>
      have hmoves := fun a => receiveByte_moves (s := u) (a := a) ha.1 hlate
      split
      next hat => exact hmoves _ (congrArg (Assembler.take · b.value) hat)
      next hat =>
        have htake := (congrArg (Assembler.take · b.value) hat).trans (take_started b.value)
        split
        next hbad =>
          rw [if_pos hbad] at htake
          exact (receiveByte_completes (s := u) ha.1 hlate htake).trans
            (exec_frameLengthInvalid (s := moved .hunting) ha hbad)
        next hgood =>
          rw [if_neg hgood] at htake
          exact hmoves _ htake
      next hat =>
        intro hmore
        exact hmoves _ ((congrArg (Assembler.take · b.value) hat).trans (take_collecting b.value hmore))
  · intro body hreceived u
    have hu : Awake u := ha
    have hlength : (BitVec.ofNat 8 (payload.length + 2)).toNat = payload.length + 2 := Nat.mod_eq_of_lt (by omega)
    obtain ⟨t, hruns, hlast⟩ := runs_checkFrame ha hp hunting hlength hshort (kind := kind) (tag := tag) (rest := rest)
      (hi := crc.extractLsb' 8 8) (lo := crc.extractLsb' 0 8) (hreceived.trans (by simp [body, onTime]))
    refine ⟨t, hruns, fun hne => ?_, fun heq => ⟨fun r hr hkind => ?_, fun hkind => ?_⟩⟩
    · rw [hlast, checkFrame_of_ne hne, exec_crcError hu hne, ← show u.link.assembler = .hunting from hunting]
    · rw [hlast, checkFrame_of_eq heq, ← hkind, commandOfFrame_request tag payload r hr]
    · rw [hlast, checkFrame_of_eq heq, commandOfFrame_bad hkind]

end Sys2Proof
end

section
/-! SUPPORT. The common checks of a request, COUNTERS, CLEAR_HISTORY and RESTART, and the front of the queue of commands. -/

set_option Elab.async false

namespace Sys2Proof

open Sys2Proof.Machine

/-! ## The common checks (R179, R180) -/

/-- A good frame that is refused whatever its owner would say: nothing but the link changes. -/
theorem request_refuses {s : State} (ha : Awake s) (hr : s.link.replies.length < 4) (kind tag : Byte) (x : Status) :
    ∃ t, request kind tag true false (fun u => Handled.refuse u x) s = .next t ∧ Refused s t kind tag x := by
  obtain ⟨t, hx, honly, hsends⟩ := request_sends ha hr (kind := kind) (tag := tag) (ready := false)
    (handle := fun u => Handled.refuse u x) (ns := []) nofun (by simp [Handled.refuse, afterFrame]) (by decide)
  exact ⟨t, hx, (frameTaken_only s).comp honly, hsends⟩

/-- A good frame whose dispatch is that of a refusal with `x`. -/
theorem refused_of_dispatch {s t : State} (ha : Awake s) (hr : s.link.replies.length < 4) {kind tag : Byte}
    {handle : State → Handled} {x : Status}
    (ht : event (fun u => dispatch kind tag handle (frameTaken u)) s = .next t)
    (hx : handle (frameTaken s) = Handled.refuse (frameTaken s) x) : Refused s t kind tag x := by
  obtain ⟨u, hu, hrefused⟩ := request_refuses ha hr kind tag x
  have hsame : event (fun u => dispatch kind tag handle (frameTaken u)) s =
      request kind tag true false (fun u => Handled.refuse u x) s := by
    rw [request, event_next ha.1, event_next ha.1, dispatch, hx]
    rfl
  exact Host.Outcome.next.inj (hu.symm.trans (hsame.symm.trans ht)) ▸ hrefused

theorem commonChecks_badLength (ready : Bool) (handle : State → Handled) (s : State) :
    commonChecks false ready handle s = Handled.refuse s .badLength := rfl

theorem commonChecks_notReady {s : State} (h : s.startup.state = .loading) (handle : State → Handled) :
    commonChecks true true handle s = Handled.refuse s .notReady := by
  simp [commonChecks, h]

/-- With four replies waiting a good frame is discarded and counted, and nothing is sent (R179). -/
theorem event_discards {s : State} (ha : Awake s) (hfull : 4 ≤ s.link.replies.length) (kind tag : Byte)
    (handle : State → Handled) :
    event (fun u => dispatch kind tag handle (frameTaken u)) s =
      .next (s.withLink { afterFrame s.link with discards := min 65535 (s.link.discards + 1) }) := by
  have hdispatch : dispatch kind tag handle (frameTaken s) = (frameTaken s).countDiscard := if_pos hfull
  rw [event_next ha.1, hdispatch]
  exact congrArg _ (pump_of_linkOk (u := (frameTaken s).countDiscard) ha.2)

theorem exec_badKind {kind : Byte} (h : kind = 0 ∨ 15 < kind.toNat) (tag : Byte) (p : List Byte) (s : State) :
    exec (.badKind kind tag p) s =
      event (fun u => dispatch kind tag (fun u => Handled.refuse u .badKind) (frameTaken u)) s := by
  have hno : ¬(1 ≤ kind.toNat ∧ kind.toNat ≤ 15) := by
    obtain rfl | h := h
    · decide
    · omega
  rw [exec_event rfl]
  simp only [effect, if_neg hno]

/-- The request kinds of R180 with their commands and the lengths that they take. -/
def requestTable : List (Byte × (Byte → List Byte → Instr) × (Nat → Bool)) :=
  [(0x01, .set, fun n => n % 2 = 1 && 3 ≤ n && n ≤ 35), (0x02, .commit, (· = 0)), (0x03, .query, (· = 3)),
   (0x04, .speed, (· = 3)), (0x05, .annStart, (· = 2)), (0x06, .annEnd, (· = 1)),
   (0x07, .tableWrite, fun n => 4 ≤ n && n ≤ 248), (0x08, .tableRead, (· = 4)), (0x09, .save, (· = 1)),
   (0x0A, .closeFactory, (· = 0)), (0x0B, .patchPut, (· = 5)), (0x0C, .patchDrop, (· = 3)), (0x0D, .counters, (· = 1)),
   (0x0E, .clearHistory, (· = 0)), (0x0F, .restart, (· = 0))]

/-- Every request kind takes the common checks with the lengths of the table, and all but QUERY need a part that is ready. -/
theorem exec_requestTable (tag : Byte) (p : List Byte) (s : State) :
    ∀ r ∈ requestTable, ∃ handle, exec (r.2.1 tag p) s = request r.1 tag (r.2.2 p.length) (r.1 ≠ 0x03) handle s := by
  simp only [requestTable, List.forall_mem_cons]
  exact ⟨⟨_, rfl⟩, ⟨_, rfl⟩, ⟨_, rfl⟩, ⟨_, rfl⟩, ⟨_, rfl⟩, ⟨_, rfl⟩, ⟨_, rfl⟩, ⟨_, rfl⟩, ⟨_, rfl⟩, ⟨_, rfl⟩, ⟨_, rfl⟩,
    ⟨_, rfl⟩, ⟨_, rfl⟩, ⟨_, rfl⟩, ⟨_, rfl⟩, nofun⟩

/-- Settles O54: the check of the reply queue, then the kind's, the length's and LOADING's. -/
theorem commonChecksRefuse : Obligations.CommonChecksRefuse := by
  intro tag p s ha
  have hrequests := exec_requestTable tag p s
  refine ⟨fun hfull => ⟨fun r hr => ?_, fun kind hkind => ?_⟩, fun hroom => ⟨fun kind hkind => ?_, fun r hr => ?_⟩⟩
  · obtain ⟨handle, hexec⟩ := hrequests r hr
    rw [hexec]
    exact event_discards ha hfull _ _ _
  · rw [exec_badKind hkind]
    exact event_discards ha hfull _ _ _
  · rw [exec_badKind hkind]
    exact ⟨_, event_next ha.1 _, refused_of_dispatch ha hroom (event_next ha.1 _) rfl⟩
  · obtain ⟨handle, hexec⟩ := hrequests r hr
    refine ⟨_, hexec.trans (event_next ha.1 _), fun hlength => ?_, fun hlength hloading hkind => ?_⟩ <;> rw [hlength]
    · exact refused_of_dispatch ha hroom (event_next ha.1 _) (commonChecks_badLength _ _ _)
    · rw [decide_eq_true hkind]
      exact refused_of_dispatch ha hroom (event_next ha.1 _) (commonChecks_notReady (s := frameTaken s) hloading _)

/-! ## COUNTERS, CLEAR_HISTORY, RESTART (R184, R185) -/

/-- A request that is answered with content over the state `u`, which has posted nothing. -/
theorem request_answered {s : State} (h : Handles s) {kind tag : Byte} {handle : State → Handled} {u : State} {x : Status}
    {content : List Byte} (hu : handle (frameTaken s) = ⟨u, x, content⟩) (hlink : LinkOk u.link) :
    ∃ t, request kind tag true true handle s = .next t ∧ Only [.link, .draws] u t ∧
      Sends u.link t [replyFrame kind tag x content] [] := by
  have happended : (appendReply kind tag ⟨u, x, content⟩).link = { u.link with
      replies := u.link.replies ++ [replyFrame kind tag x content]
      notices := u.link.notices ++ ([] : List Notice).filter fun n => n ∉ u.link.notices } := by
    simp [appendReply, replyFrame]
  obtain ⟨hsends, honly⟩ := pump_sends hlink happended (by decide)
  refine ⟨_, request_reaches h kind tag true handle, ?_, ?_⟩ <;> rw [hu]
  · exact (withLink_only u _).comp honly
  · exact hsends

theorem handleCounters_keep {clear : Byte} (h : ¬clear.getLsbD 0 = true) (s : State) :
    handleCounters [clear] s = ⟨s, .ok, (counterValues s).flatMap fun n => bytes2 n⟩ :=
  congrArg (Handled.mk · _ _) (if_neg h)

theorem handleCounters_clear {clear : Byte} (h : clear.getLsbD 0 = true) (s : State) :
    handleCounters [clear] s = ⟨clearCounters s, .ok, (counterValues s).flatMap fun n => bytes2 n⟩ :=
  congrArg (Handled.mk · _ _) (if_pos h)

theorem clearCounters_only (s : State) : Only [.link, .integrity, .output] s (clearCounters s) :=
  ((withLink_only s _).comp (withIntegrity_only _ _) (n := [.link, .integrity])).comp (mapOut_only _ _)

/-- The counters as numbers with sign, and then as bytes (R177, R184). -/
theorem counterBytes_eq (s : State) :
    ((counterValues s >>= fun n => pure (n : Int)).flatMap fun n => bytes2 n) = (counterValues s).flatMap fun n => bytes2 n := by
  simp [List.flatMap_assoc]

/-- Settles O52: COUNTERS by its clear flag, then CLEAR_HISTORY and RESTART. -/
theorem countersHistoryRestart : Obligations.CountersHistoryRestart := by
  intro tag s h
  have hok : LinkOk (afterFrame s.link) := afterFrame_ok h.1.2
  have htaken := frameTaken_only s
  refine ⟨fun clear => ?_, ?_, ?_⟩
  · intro content
    have hcontent : content = (counterValues (frameTaken s)).flatMap fun n => bytes2 n := counterBytes_eq s
    rw [hcontent]
    by_cases hclear : clear.getLsbD 0 = true
    · obtain ⟨t, hx, honly, hsends⟩ := request_answered h (kind := 0x0D) (tag := tag)
        (handleCounters_clear hclear (frameTaken s)) hok
      have hcleared := htaken.comp (clearCounters_only _) (n := [.link, .integrity, .output])
      refine ⟨t, hx, ?_⟩
      rw [if_pos hclear]
      exact ⟨hcleared.comp honly, honly.integrity, honly.output, hsends⟩
    · obtain ⟨t, hx, honly, hsends⟩ := request_answered h (kind := 0x0D) (tag := tag)
        (handleCounters_keep hclear (frameTaken s)) hok
      refine ⟨t, hx, ?_⟩
      rw [if_neg hclear]
      exact ⟨htaken.comp honly, hsends⟩
  · obtain ⟨t, hx, honly, hsends⟩ := request_counted h (kind := 0x0E) (tag := tag) (ready := true)
      (handle := handleClearHistory) rfl hok
    have hrecord := htaken.comp (handleClearHistory_only (frameTaken s)) (n := [.record, .link])
    exact ⟨t, hx, hrecord.comp honly, honly.record, hsends⟩
  · obtain ⟨t, hx, honly, hsends⟩ := request_counted h (kind := 0x0F) (tag := tag) (ready := true)
      (handle := handleRestart) rfl hok
    exact ⟨t, hx, (htaken.trans (handleRestart_only _)).comp honly, hsends⟩

/-! ## The queue of commands (log entries 4, 18) -/

theorem step_command {c : Instr} {rest : List Instr} {s : State} (h : s.pending = c :: rest) :
    step s = exec c (s.withPending rest) := by
  simp only [step, h]

theorem step_idle {s : State} (hp : s.pending = []) (hr : s.received = []) : step s = .next s := by
  simp only [step, hp, hr]

/-- Settles O1: by the queue of commands, and with none by the bytes that wait. -/
theorem stepTakesFrontCommand : Obligations.StepTakesFrontCommand :=
  ⟨fun _ _ _ h => step_command h, fun _ _ _ hp hr => step_received hp hr, fun _ hp hr => step_idle hp hr⟩

end Sys2Proof
end
